-- ==== Sys2Proof/Word.lean ====
section
/-! DEFINITION. The word types of BSE (00_scope.md R9, R13, R14): every value is an unsigned bit vector. -/

namespace Sys2Proof

/-- The transport data width, 32 bits (R9). -/
abbrev Word := BitVec 32

/-- An AP address or component base address, 64 bits (R9). -/
abbrev Addr := BitVec 64

/-- A register offset, 16 bits (R9). -/
abbrev Offset := BitVec 16

/-- A transport register address, 12 bits (20_memory.md R50). -/
abbrev XAddr := BitVec 12

/-- A command, response or diagnostic word, 128 bits (30_encoding.md R80, R85, R92). -/
abbrev PortWord := BitVec 128

end Sys2Proof
end

