-- ==== Sys2Proof/Config.lean ====
section
/-! DEFINITION. What an implementation fixes (`Cfg`, 00_scope.md R10), the vocabulary of the ports
(transport requests and answers, port events), and the free values of the environment. -/

namespace Sys2Proof

/-- The named parameters of BSE (00_scope.md R10). -/
structure Cfg where
  /-- `XADDR_SELECT`: transport address of SELECT. -/
  xaddrSelect : XAddr
  /-- `XADDR_SELECT1`: transport address of SELECT1. -/
  xaddrSelect1 : XAddr
  /-- `BANK_SELECT1`: the DP bank that exposes SELECT1. -/
  bankSelect1 : BitVec 4
  /-- `XADDR_DPIDR1`: the secondary identification register. -/
  xaddrDpidr1 : XAddr
  /-- `BANK_DPIDR1`. -/
  bankDpidr1 : BitVec 4
  /-- `XADDR_BASEPTR0`: the low base-pointer register. -/
  xaddrBaseptr0 : XAddr
  /-- `BANK_BASEPTR0`. -/
  bankBaseptr0 : BitVec 4
  /-- `XADDR_BASEPTR1`: the high base-pointer register. -/
  xaddrBaseptr1 : XAddr
  /-- `BANK_BASEPTR1`. -/
  bankBaseptr1 : BitVec 4
  /-- `WIDTH_MASK`: the address-width field. -/
  widthMask : Word
  /-- `BASE_ADDRESS_MASK`: the address bits of a base pointer. -/
  baseAddressMask : Addr
  /-- `AP_BANK_HI_MASK`: the offset nibble shifted down by 4. -/
  apBankHiMask : Offset
  /-- `AP_BANK_LO_MASK`: the offset nibble kept in place. -/
  apBankLoMask : Offset
  /-- `CIDR_BASE_OFFSET`: offset of Component-ID lane 0. -/
  cidrBaseOffset : Offset
  /-- `CID_CLASS_MASK`: the class nibble. -/
  cidClassMask : Word
  /-- `CID_CLASS_SHIFT`: its lowest bit. -/
  cidClassShift : BitVec 5
  /-- `CID_PREAMBLE`: the preamble with the class nibble zero. -/
  cidPreamble : Word
  deriving DecidableEq, Repr

/-- `Cfg.default`: the defaults of 00_scope.md R10. -/
def Cfg.default : Cfg where
  xaddrSelect := 0x008#12
  xaddrSelect1 := 0x004#12
  bankSelect1 := 5#4
  xaddrDpidr1 := 0x000#12
  bankDpidr1 := 1#4
  xaddrBaseptr0 := 0x000#12
  bankBaseptr0 := 2#4
  xaddrBaseptr1 := 0x000#12
  bankBaseptr1 := 3#4
  widthMask := 0x0000007F#32
  baseAddressMask := 0xFFFFFFFFFFFFF000#64
  apBankHiMask := 0xF000#16
  apBankLoMask := 0x00F0#16
  cidrBaseOffset := 0xF0F0#16
  cidClassMask := 0x0000F000#32
  cidClassShift := 12#5
  cidPreamble := 0xB105000D#32

/-- One transport request (20_memory.md R51): a read at `xaddr`, or a write of 32 bits at `xaddr`. -/
inductive Request where
  | read (xaddr : XAddr)
  | write (xaddr : XAddr) (data : Word)
  deriving DecidableEq, Repr

/-- What the transport does with the outstanding request (20_memory.md R51, R52). -/
inductive Answer where
  /-- `err = 0`; `rdata` means something for a read only. -/
  | ok (rdata : Word)
  /-- `err = 1`. `landed` says whether a failed write reached its register all the same, which BSE
  does not see (60_exceptions.md R221, 93_implementation_defined.md U5; log 6). -/
  | err (landed : Bool)
  /-- No answer in this step: the sequencer goes on waiting (R52, 60_exceptions.md R227; log 5).
  `taken` says whether the transport took the request, which is `x_req_ready` (30_encoding.md R91;
  log 20). -/
  | silent (taken : Bool)
  deriving DecidableEq, Repr, Inhabited

/-- What has passed the ports of BSE or happened at its target (R18's trace, and the events around
it; 60_exceptions.md R224; log 4). -/
inductive Event where
  /-- A command word was accepted. -/
  | accept (w : PortWord)
  /-- A transaction was answered. -/
  | xfer (r : Request) (a : Answer)
  /-- A diagnostic event was emitted. -/
  | diag (w : PortWord)
  /-- The host took a response. -/
  | response (w : PortWord)
  /-- Reset. `abandoned`: an operation was in flight; `landed`: its outstanding write was carried
  out (70_reset_and_hazards.md R242). -/
  | reset (abandoned landed : Bool)
  /-- Another bus user left these values in SELECT and SELECT1 (70_reset_and_hazards.md R249). -/
  | otherUsers (select select1 : Word)
  /-- A register of the target changed by itself (20_memory.md R59). -/
  | targetChange (select1 select : Word) (xaddr : XAddr) (v : Word)
  deriving DecidableEq, Repr

/-- FREE VALUE: what the open `Transport` oracle (00_scope.md R11, 20_memory.md R52) does with a
request, given all that happened before, how often this request was already found unanswered, and
whether it was taken. DESIGN CHOICE, log 4. -/
opaque Config.transport (past : List Event) (waits : Nat) (taken : Bool) (r : Request) : Answer

/-- FREE VALUE: what SELECT1 holds after a write to its address landed while SELECT exposed another
DP bank, which only other bus users can bring about (70_reset_and_hazards.md R249). DESIGN CHOICE,
log 7. -/
opaque Config.straySelect1 (past : List Event) (data : Word) : Word

end Sys2Proof
end

