-- ==== Sys2Proof/Machine/Operands.lean ====
section
/-! DEFINITION. The pure functions of the datapath units on operands: the bank-selector encoder
(40_bank_selector.md), split and combine (41_base_address.md), lane offsets and reassembly
(44_component_probe.md). -/

namespace Sys2Proof.Machine

/-- `BankOf(off)` (40_bank_selector.md R110). -/
def bankOf (c : Cfg) (off : Offset) : Offset := off &&& (c.apBankHiMask ||| c.apBankLoMask)

/-- `SelVal(lo, off)` (40_bank_selector.md R111): the value written to SELECT. The shift is a 16-bit
logical one. -/
def selVal (c : Cfg) (lo : Word) (off : Offset) : Word :=
  lo ||| ((bankOf c off &&& c.apBankHiMask) >>> 4).setWidth 32
    ||| (bankOf c off &&& c.apBankLoMask).setWidth 32

/-- `XAddrOf(off)` (40_bank_selector.md R112): the transport address of the guarded access. -/
def xaddrOf (off : Offset) : XAddr := off.extractLsb' 0 12

/-- `Hi32(a)` (41_base_address.md R130): the SELECT1 payload. -/
def hi32 (a : Addr) : Word := a.extractLsb' 32 32

/-- `Lo32(a)` (41_base_address.md R130). -/
def lo32 (a : Addr) : Word := a.extractLsb' 0 32

/-- `Combine64(lo, hi)` (41_base_address.md R131): both halves are widened before the shift. -/
def combine64 (lo hi : Word) : Addr := lo.setWidth 64 ||| (hi.setWidth 64 <<< 32)

/-- `BaseCanon(raw)` (41_base_address.md R136). -/
def baseCanon (c : Cfg) (raw : Addr) : Addr := raw &&& c.baseAddressMask

/-- `WidthOf(v)` (41_base_address.md R137). -/
def widthOf (c : Cfg) (v : Word) : Word := v &&& c.widthMask

/-- `LaneOff(i)` (44_component_probe.md R191), modulo 2^16. -/
def laneOff (c : Cfg) (i : Nat) : Offset := c.cidrBaseOffset + BitVec.ofNat 16 (4 * i)

/-- The low byte of a lane read, at the bottom of a 32-bit word (44_component_probe.md R190, R199). -/
def laneByte (v : Word) : Word := (v.extractLsb' 0 8).setWidth 32

/-- `CidrAssemble(v0, v1, v2, v3)` (44_component_probe.md R190). -/
def cidrAssemble (v0 v1 v2 v3 : Word) : Word :=
  laneByte v0 ||| laneByte v1 <<< 8 ||| laneByte v2 <<< 16 ||| laneByte v3 <<< 24

/-- `CidrClass(c)` (44_component_probe.md R193). -/
def cidrClass (c : Cfg) (cidr : Word) : BitVec 4 :=
  ((cidr &&& c.cidClassMask) >>> c.cidClassShift.toNat).extractLsb' 0 4

/-- The offset a host presents for the 12-bit component register offset `x`, with the
transport-defined flags in bits 11:8 (40_bank_selector.md R118). -/
def offsetFor (x : XAddr) (flags : BitVec 4) : Offset :=
  ((x.setWidth 16 &&& 0x0F00#16) <<< 4) ||| (x.setWidth 16 &&& 0x00FF#16)
    ||| (flags.setWidth 16 <<< 8)

end Sys2Proof.Machine
end

