-- ==== Sys2Proof/Syntax.lean ====
section
/-! DEFINITION. The six operations of BSE, one constructor per row of spec/opcode_table.json
(30_encoding.md R82). A constructor holds every operand field of the command word, the ignored ones
too, because acceptance latches them all (10_state.md R21, 30_encoding.md R83). -/

namespace Sys2Proof

/-- A legal command (30_encoding.md R82, R83). HIV is an operand of SELB alone; everywhere else it
must be 0, and RSV must be 0 in all six, so neither is a field there. -/
inductive Instr where
  /-- SELB, `OP = 1` (40_bank_selector.md R117). -/
  | selb (hiv : Bool) (off : Offset) (addr : Addr) (data : Word)
  /-- RDBASE, `OP = 2` (41_base_address.md R138). -/
  | rdbase (off : Offset) (addr : Addr) (data : Word)
  /-- INIT, `OP = 3` (42_dp_init.md R150). -/
  | init (off : Offset) (addr : Addr) (data : Word)
  /-- APRD, `OP = 4` (43_ap_access.md R171). -/
  | aprd (off : Offset) (addr : Addr) (data : Word)
  /-- APWR, `OP = 5` (43_ap_access.md R172). -/
  | apwr (off : Offset) (addr : Addr) (data : Word)
  /-- PROBE, `OP = 6` (44_component_probe.md R198). -/
  | probe (off : Offset) (addr : Addr) (data : Word)
  deriving DecidableEq, Repr

end Sys2Proof
end

