-- ==== Sys2Proof/WellFormed.lean ====
section
/-! DEFINITION. The checks of the spec on what it is given: a command word cut into fields
(30_encoding.md R84) and a configuration (00_scope.md R10). -/

namespace Sys2Proof

/-- A command word cut into its fields (30_encoding.md R80); nothing is checked yet. -/
structure Command where
  op : BitVec 4
  hiv : Bool
  rsv : BitVec 11
  off : Offset
  addr : Addr
  data : Word
  deriving DecidableEq, Repr

/-- R84, first condition: `OP` is one of the six codes of R82. -/
def Command.opLegal (c : Command) : Bool := 1 ≤ c.op.toNat && c.op.toNat ≤ 6

/-- R84, second condition: `RSV` is 0. -/
def Command.rsvZero (c : Command) : Bool := c.rsv == 0#11

/-- R84, third condition: `HIV = 1` only with SELB's code. -/
def Command.hivAllowed (c : Command) : Bool := !c.hiv || c.op == 1#4

/-- A command that is not illegal (30_encoding.md R84). -/
def Command.legal (c : Command) : Bool := c.opLegal && c.rsvZero && c.hivAllowed

/-- R10: the two bank masks share no bit. -/
def Cfg.bankMasksDisjoint (c : Cfg) : Bool := c.apBankHiMask &&& c.apBankLoMask == 0#16

/-- R10: the two bank nibbles do not collide after the shift. -/
def Cfg.bankNibblesDisjoint (c : Cfg) : Bool := (c.apBankHiMask >>> 4) &&& c.apBankLoMask == 0#16

/-- R10: the preamble has the class nibble zero. -/
def Cfg.preambleClear (c : Cfg) : Bool := c.cidPreamble &&& c.cidClassMask == 0#32

/-- R10: the class mask is 4 adjacent set bits whose lowest is bit `CID_CLASS_SHIFT`. -/
def Cfg.classMaskRun (c : Cfg) : Bool :=
  c.cidClassShift.toNat ≤ 28 && c.cidClassMask == 0xF#32 <<< c.cidClassShift.toNat

/-- R10: the validity flag is not an address bit. -/
def Cfg.baseMaskDropsValid (c : Cfg) : Bool := c.baseAddressMask.getLsbD 0 == false

/-- A well-formed configuration (00_scope.md R10); the model refuses any other
(93_implementation_defined.md U16). -/
def Cfg.wf (c : Cfg) : Bool :=
  c.bankMasksDisjoint && c.bankNibblesDisjoint && c.preambleClear && c.classMaskRun
    && c.baseMaskDropsValid

end Sys2Proof
end

