-- ==== Sys2Proof/Decode.lean ====
section
/-! DEFINITION. From a command word to an operation or a named reason why it is illegal
(30_encoding.md R80 to R84), and back. There is one length and one format (R89). -/

namespace Sys2Proof

/-- Why a command word is illegal (30_encoding.md R84). The response is the same for all three. -/
inductive Illegal where
  /-- `OP` is 0 or 7 to 15. -/
  | opCode
  /-- `RSV` is not 0. -/
  | reservedBits
  /-- `HIV = 1` with an `OP` other than SELB's. -/
  | hivOutsideSelb
  deriving DecidableEq, Repr

/-- The fields of a command word (30_encoding.md R80). -/
def Command.ofWord (w : PortWord) : Command where
  op := w.extractLsb' 124 4
  hiv := w.getLsbD 123
  rsv := w.extractLsb' 112 11
  off := w.extractLsb' 96 16
  addr := w.extractLsb' 32 64
  data := w.extractLsb' 0 32

/-- `OP ++ HIV ++ RSV ++ OFF ++ ADDR ++ DATA` (30_encoding.md R80, R90). -/
def Command.word (c : Command) : PortWord :=
  c.op ++ (BitVec.ofBool c.hiv ++ (c.rsv ++ (c.off ++ (c.addr ++ c.data))))

/-- The operation a set of fields names (30_encoding.md R82), or why it is illegal (R84): first
`OP`, then `RSV`, then `HIV` outside SELB. -/
def Command.decode (c : Command) : Except Illegal Instr :=
  if c.op.toNat = 0 ∨ 7 ≤ c.op.toNat then .error .opCode
  else if c.rsv ≠ 0#11 then .error .reservedBits
  else if c.hiv = true ∧ c.op.toNat ≠ 1 then .error .hivOutsideSelb
  else match c.op.toNat with
    | 1 => .ok (.selb c.hiv c.off c.addr c.data)
    | 2 => .ok (.rdbase c.off c.addr c.data)
    | 3 => .ok (.init c.off c.addr c.data)
    | 4 => .ok (.aprd c.off c.addr c.data)
    | 5 => .ok (.apwr c.off c.addr c.data)
    | _ => .ok (.probe c.off c.addr c.data)

/-- Decoding a command word (30_encoding.md R80 to R84). -/
def decode (w : PortWord) : Except Illegal Instr := (Command.ofWord w).decode

/-- The fields an operation is presented with (30_encoding.md R80, R82, R83). -/
def Instr.command : Instr → Command
  | .selb hiv off addr data => ⟨1#4, hiv, 0#11, off, addr, data⟩
  | .rdbase off addr data => ⟨2#4, false, 0#11, off, addr, data⟩
  | .init off addr data => ⟨3#4, false, 0#11, off, addr, data⟩
  | .aprd off addr data => ⟨4#4, false, 0#11, off, addr, data⟩
  | .apwr off addr data => ⟨5#4, false, 0#11, off, addr, data⟩
  | .probe off addr data => ⟨6#4, false, 0#11, off, addr, data⟩

/-- An operation whose fields pass the checks of 30_encoding.md R84. `Laws/PerInstr.lean` shows that
every term of `Instr` does: its constructors have no place for an illegal field. -/
def Instr.wellFormed (i : Instr) : Bool := i.command.legal

/-- The command word of an operation (30_encoding.md R80, R82). -/
def encode (i : Instr) : PortWord := i.command.word

/-- The operation read from an opcode-table word of `nbits` bits. A command is one 128-bit word
(R80), numbered by the table as by the spec, so the bits are the word; a word that needs more bits
than a command has is no command. -/
def decodeTableWord (nbits w : Nat) : Option Instr :=
  if nbits ≤ 128 ∧ w < 2 ^ 128 then (decode (BitVec.ofNat 128 w)).toOption else none

/-! The textual forms of 30_encoding.md R90: an operand not listed is assembled as 0. -/

/-- `SELB addr off [hi]`. -/
def Asm.selb (addr : Addr) (off : Offset) (hi : Bool) : Instr := .selb hi off addr 0#32

/-- `RDBASE`. -/
def Asm.rdbase : Instr := .rdbase 0#16 0#64 0#32

/-- `INIT`. -/
def Asm.init : Instr := .init 0#16 0#64 0#32

/-- `APRD addr off`. -/
def Asm.aprd (addr : Addr) (off : Offset) : Instr := .aprd off addr 0#32

/-- `APWR addr off data`. -/
def Asm.apwr (addr : Addr) (off : Offset) (data : Word) : Instr := .apwr off addr data

/-- `PROBE addr entry`. -/
def Asm.probe (addr : Addr) (entry : Word) : Instr := .probe 0#16 addr entry

/-- The pseudo-command `SELDP k` (R90). -/
def Asm.seldp (k : BitVec 4) : Instr := Asm.selb (k.setWidth 64) 0x0000#16 false

/-- The pseudo-command `SELAP addr off` (R90). -/
def Asm.selap (a : Addr) (o : Offset) : Instr := Asm.selb a o true

end Sys2Proof
end

