-- ==== Sys2Proof/Machine/State.lean ====
section
/-! DEFINITION. The state of the machine: BSE's registers (10_state.md R20 to R28, R33), the
sequencer's position, the input ports, the target side (R29) and the transport, all plain data. -/

namespace Sys2Proof.Machine

/-- The command latches (10_state.md R21). -/
structure CommandLatches where
  op : BitVec 4
  hiv : Bool
  off : Offset
  addr : Addr
  data : Word
  deriving DecidableEq, Repr

/-- The response latches (10_state.md R22). -/
structure Response where
  ok : Bool
  reason : BitVec 4
  cls : BitVec 4
  width : BitVec 7
  raddr : Addr
  rdata : Word
  deriving DecidableEq, Repr

/-- The reason codes that are ever produced (30_encoding.md R86, 60_exceptions.md R211). -/
inductive Reason where
  | none
  | eTransport
  | eNoValidBase
  | eBaseTooWide
  | ePreambleMismatch
  | eDispatchUnimplemented
  | eWidthUnsupported
  | eIllegal
  deriving DecidableEq, Repr

/-- The diagnostic kinds (30_encoding.md R92). -/
inductive DiagKind where
  | widthDiscovered
  | invalidBase
  | preambleMismatch
  deriving DecidableEq, Repr

/-- The sequencer's position (10_state.md R27, R28). -/
inductive Seq where
  /-- No operation. -/
  | idle
  /-- The operation in the command latches is running; the list holds what each transaction
  answered so far returned (0 for a write), oldest first. Its length is the index of the next
  transaction. -/
  | running (answered : List Word)
  /-- The response is presented and not yet taken. -/
  | responding
  deriving DecidableEq, Repr

/-- Target-side SELECT and SELECT1 (10_state.md R29). -/
structure Target where
  select : Word
  select1 : Word
  deriving DecidableEq, Repr

/-- One write recorded by the reference target (20_memory.md R67). -/
structure WriteRecord where
  select1 : Word
  select : Word
  xaddr : XAddr
  data : Word
  deriving DecidableEq, Repr

/-- A finite map from register keys to 32-bit values; the canonical form is `RegMap.wf` in
Machine/Ops.lean. -/
abbrev RegMap := List (Nat × Word)

/-- The reference target's own state (20_memory.md R67); its SEL and SEL1 are `Target`. -/
structure RefTarget where
  /-- `REGS`. -/
  regs : RegMap
  /-- `WLOG`, oldest first. -/
  wlog : List WriteRecord
  /-- `FAILAT`. -/
  failAt : List Nat
  /-- Index of the next transaction, from 0. -/
  count : Nat
  deriving DecidableEq, Repr

/-- What answers the transport port (00_scope.md R11, 20_memory.md R52, R67). -/
inductive Transport where
  /-- The open oracle: first the listed answers, oldest first, then free ones (log 4). -/
  | live (answers : List Answer)
  /-- The reference target of 20_memory.md R67. -/
  | reference (t : RefTarget)
  deriving DecidableEq, Repr

/-- What the world outside BSE and its transport does next (00_scope.md R12). -/
inductive Input where
  /-- Nothing from outside: the operation in flight goes on, or BSE waits. -/
  | quiet
  /-- The host presents a command word (30_encoding.md R91). -/
  | command (w : PortWord)
  /-- The host drives `rsp_ready` (R91). -/
  | ready (b : Bool)
  /-- `rst` (70_reset_and_hazards.md R240, R242); `landed` as in `Event.reset`, and the moment of
  landing is a DESIGN CHOICE (log 21). -/
  | rst (landed : Bool)
  /-- Another bus user leaves these values in SELECT and SELECT1 (R249). -/
  | otherUsers (select select1 : Word)
  /-- A register of the target changes (20_memory.md R59). -/
  | targetChange (select1 select : Word) (xaddr : XAddr) (v : Word)
  deriving DecidableEq, Repr

/-- The machine. INVENTORY.md, heading State, gives the rule behind every field. -/
structure State where
  /-- The configuration (00_scope.md R10), fixed for the life of an instance (log 3). -/
  cfg : Cfg
  /-- The command latches. -/
  cmd : CommandLatches
  /-- The response latches. -/
  rsp : Response
  /-- `ADDR_WIDTH` (R23). -/
  addrWidth : BitVec 7
  /-- `WIDTH_VALID` (R24). -/
  widthValid : Bool
  /-- `V6_BOUND` (R25). -/
  v6Bound : Bool
  /-- `BUSY` (R26). -/
  busy : Bool
  /-- The sequencer's position (R27). -/
  seq : Seq
  /-- What the port `diag` presents in this step, oldest first, each word for one cycle
  (30_encoding.md R91; log 14). -/
  diagOut : List PortWord
  /-- The level of `rsp_ready` (30_encoding.md R91). -/
  hostReady : Bool
  /-- What the host and the rest of the world do next, in order (log 2). -/
  inputs : List Input
  /-- Target-side SELECT and SELECT1 (R29). -/
  target : Target
  /-- What answers the transport port. -/
  transport : Transport
  /-- The transport has taken the outstanding request and not yet answered it (30_encoding.md R91,
  `x_req_valid` and `x_req_ready`; log 20). -/
  reqTaken : Bool
  /-- How often the outstanding request was found unanswered (log 4). -/
  waits : Nat
  /-- What has passed the ports, oldest first (log 4). -/
  log : List Event
  deriving DecidableEq, Repr

/-- Why the machine stops. No behaviour of BSE is a fault: its failures are responses
(60_exceptions.md R214). -/
inductive Fault where
  /-- Raised by `step` alone, where BUSY is 1 and the sequencer's position lies in no script of the
  latched command. SAFE: no run reaches such a state (log 17). -/
  | strayPosition
  deriving DecidableEq, Repr

/-- Why the model declines. -/
inductive Refusal where
  /-- Raised by an arm of `exec` whose instruction has no meaning. SAFE. No arm raises it. -/
  | notModelled (mnemonic : String)
  /-- Raised by `step` alone, where `cfg` fails a check of 00_scope.md R10
  (93_implementation_defined.md U16). SAFE: the spec asks the model to refuse it (log 3). -/
  | illFormedCfg
  deriving DecidableEq, Repr

/-- The reset value of the command latches (70_reset_and_hazards.md R240). -/
def CommandLatches.reset : CommandLatches := ⟨0#4, false, 0#16, 0#64, 0#32⟩

/-- The reset value of the response latches (70_reset_and_hazards.md R240). -/
def Response.reset : Response := ⟨false, 0#4, 0#4, 0#7, 0#64, 0#32⟩

/-- The machine right after reset: BSE as 70_reset_and_hazards.md R240 says; the target side, the
transport and the input ports as logs 3, 8, 9 and 10 say. -/
def State.reset : State where
  cfg := Cfg.default
  cmd := CommandLatches.reset
  rsp := Response.reset
  addrWidth := 0#7
  widthValid := false
  v6Bound := false
  busy := false
  seq := .idle
  diagOut := []
  hostReady := true
  inputs := []
  target := ⟨0#32, 0#32⟩
  transport := .live []
  reqTaken := false
  waits := 0
  log := []

end Sys2Proof.Machine
end

