-- ==== Sys2Proof/Machine/Flags.lean ====
section
/-! DEFINITION. The tests of the datapath units, and the status words BSE answers with: reason
codes, response word, diagnostic word (30_encoding.md R85, R86, R92). BSE has no condition flags
(41_base_address.md R139). -/

namespace Sys2Proof.Machine

/-- `BaseValid(raw)` (41_base_address.md R134). -/
def baseValid (raw : Addr) : Bool := raw.getLsbD 0

/-- `BaseFits(raw, w)` (41_base_address.md R135): over the natural numbers, on the raw value. -/
def baseFits (raw : Addr) (w : Nat) : Bool := decide (raw.toNat < 2 ^ w)

/-- `WidthSupported(w)` (41_base_address.md R137). -/
def widthSupported (w : Word) : Bool := decide (32 ≤ w.toNat ∧ w.toNat ≤ 64)

/-- `CidrPreambleOk(c)` (44_component_probe.md R192): the complement is taken at 32 bits. -/
def cidrPreambleOk (c : Cfg) (cidr : Word) : Bool := (cidr &&& ~~~c.cidClassMask) == c.cidPreamble

/-- The reason codes (30_encoding.md R86). -/
def Reason.code : Reason → BitVec 4
  | .none => 0#4
  | .eTransport => 1#4
  | .eNoValidBase => 2#4
  | .eBaseTooWide => 3#4
  | .ePreambleMismatch => 4#4
  | .eDispatchUnimplemented => 5#4
  | .eWidthUnsupported => 6#4
  | .eIllegal => 7#4

/-- The diagnostic kind codes (30_encoding.md R92). -/
def DiagKind.code : DiagKind → BitVec 4
  | .widthDiscovered => 1#4
  | .invalidBase => 2#4
  | .preambleMismatch => 3#4

/-- The response word (30_encoding.md R85). -/
def Response.word (r : Response) : PortWord :=
  BitVec.ofBool r.ok ++ (r.reason ++ (r.cls ++ (r.width ++ (0#16 ++ (r.raddr ++ r.rdata)))))

/-- The diagnostic event word (30_encoding.md R92); the argument order is that of `Diag` (00_scope.md
R15, 90_conflicts.md C11). -/
def diagWord (kind : DiagKind) (reason : Reason) (base : Addr) (info : Word) : PortWord :=
  kind.code ++ (reason.code ++ (0#24 ++ (base ++ info)))

end Sys2Proof.Machine
end

