-- ==== Sys2Proof/Machine/Ops.lean ====
section
/-! DEFINITION. The named operations on the state: the transport port and the target behind it,
acceptance of a command, the end of an operation and its failure exit, reset, and what other agents
do. -/

namespace Sys2Proof

/-! ### Requests and answers -/

/-- An answer as BSE sees it: read data only where a read succeeded (20_memory.md R51). -/
def Answer.seen (r : Request) (a : Answer) : Answer :=
  match r, a with
  | .write _ _, .ok _ => .ok 0#32
  | .read _, .err _ => .err false
  | _, a => a

/-- The request reached its register: the transaction succeeded, or failed and landed all the same
(60_exceptions.md R221). -/
def Answer.lands : Answer → Bool
  | .ok _ => true
  | .err l => l
  | .silent _ => false

/-- The value a script goes on with: the read data, or 0 after a write. -/
def Request.value (r : Request) (v : Word) : Word :=
  match r with
  | .read _ => v
  | .write _ _ => 0#32

end Sys2Proof

namespace Sys2Proof.Machine

/-! ### The reference target's register map (20_memory.md R67) -/

/-- The canonical form: keys strictly rising, no entry equal to the 0 an unlisted key reads as. -/
def RegMap.wf (m : RegMap) : Bool :=
  decide (m.Pairwise (fun a b => a.1 < b.1) ∧ ∀ e ∈ m, e.2 ≠ 0#32)

/-- A read: an unlisted key reads 0 (R67). -/
def RegMap.get : RegMap → Nat → Word
  | [], _ => 0#32
  | (k', v) :: m, k => if k = k' then v else RegMap.get m k

/-- A write that keeps the canonical form: writing 0 removes the entry. -/
def RegMap.set : RegMap → Nat → Word → RegMap
  | [], k, v => if v = 0#32 then [] else [(k, v)]
  | (k', v') :: m, k, v =>
    if k < k' then (if v = 0#32 then (k', v') :: m else (k, v) :: (k', v') :: m)
    else if k = k' then (if v = 0#32 then m else (k, v) :: m)
    else (k', v') :: RegMap.set m k v

/-- The key `(SEL1, SEL, xaddr)` as one number (R67). -/
def regKey (select1 select : Word) (xaddr : XAddr) : Nat :=
  (select1.toNat * 2 ^ 32 + select.toNat) * 2 ^ 12 + xaddr.toNat

/-! ### The transport port -/

/-- Which part a transaction plays in a script. The open transport needs it because the spec does
not say how a target tells a select write from an access at the same address (log 7). -/
inductive Role where
  | select
  | select1
  | access
  deriving DecidableEq, Repr

/-- SELECT exposes SELECT1's bank (10_state.md R29, 20_memory.md R67; log 7). -/
def select1Exposed (c : Cfg) (t : Target) : Bool := t.select.extractLsb' 0 4 == c.bankSelect1

/-- What a write that landed at the open target leaves in SELECT and SELECT1 (10_state.md R29,
70_reset_and_hazards.md R248; log 7). An access leaves both (43_ap_access.md R175). -/
def Target.land (c : Cfg) (past : List Event) (role : Role) (r : Request) (t : Target) : Target :=
  match role, r with
  | .select, .write _ d => { t with select := d }
  | .select1, .write _ d =>
    if select1Exposed c t then { t with select1 := d }
    else { t with select1 := Config.straySelect1 past d }
  | .access, .write _ _ => t
  | _, .read _ => t

/-- The reference target's answer (20_memory.md R67). -/
def RefTarget.answer (t : RefTarget) (tgt : Target) (r : Request) : Answer :=
  if t.failAt.contains t.count then .err false
  else match r with
    | .read x => .ok (t.regs.get (regKey tgt.select1 tgt.select x))
    | .write _ _ => .ok 0#32

/-- What a write that did not fail does at the reference target (20_memory.md R67), which tells
SELECT and SELECT1 by the address. -/
def RefTarget.write (t : RefTarget) (c : Cfg) (tgt : Target) (x : XAddr) (d : Word) :
    RefTarget × Target :=
  if x = c.xaddrSelect then (t, { tgt with select := d })
  else if x = c.xaddrSelect1 ∧ select1Exposed c tgt = true then (t, { tgt with select1 := d })
  else ({ t with regs := t.regs.set (regKey tgt.select1 tgt.select x) d
                 wlog := t.wlog ++ [⟨tgt.select1, tgt.select, x, d⟩] }, tgt)

/-- What the transport does with the request `r` now (20_memory.md R52). -/
def State.answer (s : State) (r : Request) : Answer :=
  match s.transport with
  | .live (a :: _) => a
  | .live [] => Config.transport s.log s.waits s.reqTaken r
  | .reference t => t.answer s.target r

/-- The target side and the transport after the answer `a` to the request `r`. -/
def State.carry (s : State) (role : Role) (r : Request) (a : Answer) : State :=
  match s.transport with
  | .live as =>
    { s with
      transport := .live as.tail
      target := if a.lands then s.target.land s.cfg s.log role r else s.target }
  | .reference t =>
    match a, r with
    | .ok _, .write x d =>
      { s with
        transport := .reference { (t.write s.cfg s.target x d).1 with count := t.count + 1 }
        target := (t.write s.cfg s.target x d).2 }
    | _, _ => { s with transport := .reference { t with count := t.count + 1 } }

/-- A transaction is answered (20_memory.md R51, R52): the target side follows and the trace grows. -/
def State.answered (s : State) (role : Role) (r : Request) (a : Answer) : State :=
  { s.carry role r a with reqTaken := false, waits := 0, log := s.log ++ [.xfer r (a.seen r)] }

/-- No answer in this step: the request stays outstanding (20_memory.md R52); one the transport takes,
or has taken, is no longer presented (30_encoding.md R91). -/
def State.wait (s : State) (taken : Bool) : State :=
  { s with
    transport := match s.transport with
      | .live as => .live as.tail
      | .reference t => .reference t
    reqTaken := s.reqTaken || taken
    waits := s.waits + 1 }

/-- The position advances by one transaction (10_state.md R27). -/
def State.advance (s : State) (v : Word) : State :=
  { s with seq := match s.seq with
      | .running vs => .running (vs ++ [v])
      | q => q }

/-! ### The life of an operation -/

/-- A command word is taken from the command port (10_state.md R26, 30_encoding.md R91): BUSY
rises. -/
def State.take (s : State) (w : PortWord) : State :=
  { s with busy := true, log := s.log ++ [.accept w] }

/-- A legal command word is accepted (10_state.md R21): the command latches are written all together
and the position is the start of the script. -/
def State.accept (s : State) (w : PortWord) : State :=
  { s.take w with
    cmd := ⟨(Command.ofWord w).op, (Command.ofWord w).hiv, (Command.ofWord w).off,
      (Command.ofWord w).addr, (Command.ofWord w).data⟩
    seq := .running []
    reqTaken := false
    waits := 0 }

/-- A diagnostic event is emitted (30_encoding.md R92, 60_exceptions.md R224): the port presents it
in this step. -/
def State.emit (s : State) (w : PortWord) : State :=
  { s with diagOut := s.diagOut ++ [w], log := s.log ++ [.diag w] }

/-- A step begins: the diagnostics of the step before are presented no longer, taken by the sink or
not (30_encoding.md R91, "presented for one cycle; there is no back-pressure"). -/
def State.beginStep (s : State) : State := { s with diagOut := [] }

/-- The host takes the presented response if `rsp_ready` is 1: BUSY falls and the operation ends
(30_encoding.md R91, 70_reset_and_hazards.md R254). This is also the only return there is after a
failure (60_exceptions.md R222). -/
def State.offer (s : State) : State :=
  if s.hostReady then
    { s with busy := false, seq := .idle, log := s.log ++ [.response s.rsp.word] }
  else s

/-- The operation ends: the response latches are written all together and the response is presented
(10_state.md R22, 30_encoding.md R85). -/
def State.finish (s : State) (r : Response) : State :=
  State.offer { s with rsp := r, seq := .responding }

/-- `raise Fail(reason)`, the one failure exit (60_exceptions.md R214). -/
def State.raiseFail (s : State) (reason : Reason) : State :=
  s.finish ⟨false, reason.code, 0#4, s.addrWidth, 0#64, 0#32⟩

/-- An operation that returns: `WIDTH` is `ADDR_WIDTH` as it stands (30_encoding.md R85). -/
def State.answerWith (s : State) (ok : Bool) (reason : Reason) (cls : BitVec 4) (raddr : Addr)
    (rdata : Word) : State :=
  s.finish ⟨ok, reason.code, cls, s.addrWidth, raddr, rdata⟩

/-- INIT step 1 (42_dp_init.md R151). -/
def State.bindV6 (s : State) : State := { s with v6Bound := true }

/-- INIT step 2 records the width (42_dp_init.md R152). -/
def State.recordWidth (s : State) (w : BitVec 7) : State :=
  { s with addrWidth := w, widthValid := true }

/-- An illegal command word (30_encoding.md R84, 60_exceptions.md R218): taken from the port, no
effect, answered `E_ILLEGAL`. Only the response latches and BUSY change (R218; log 19). -/
def State.rejectWord (s : State) (w : PortWord) : State :=
  if s.busy then s else (s.take w).raiseFail .eIllegal

/-! ### What other agents do -/

/-- `rst` (70_reset_and_hazards.md R240 to R242): BSE takes its reset state; the operation in flight
is abandoned without a response. `tgt` is what its outstanding write, if any, left at the target. -/
def State.hardReset (s : State) (tgt : Target) (landed : Bool) : State :=
  { s with
    cmd := CommandLatches.reset
    rsp := Response.reset
    addrWidth := 0#7
    widthValid := false
    v6Bound := false
    busy := false
    seq := .idle
    diagOut := []
    target := tgt
    reqTaken := false
    waits := 0
    log := s.log ++ [.reset s.busy landed] }

/-- The host drives `rsp_ready` (30_encoding.md R91). -/
def State.setReady (s : State) (b : Bool) : State := { s with hostReady := b }

/-- Another bus user leaves these values in SELECT and SELECT1 (70_reset_and_hazards.md R249). -/
def State.interfere (s : State) (select select1 : Word) : State :=
  { s with target := ⟨select, select1⟩, log := s.log ++ [.otherUsers select select1] }

/-- A register of the target changes (20_memory.md R59). Reads of the open transport are free
already, so only the reference target has a register to change. -/
def State.targetChange (s : State) (select1 select : Word) (x : XAddr) (v : Word) : State :=
  { s with
    transport := match s.transport with
      | .live as => .live as
      | .reference t => .reference { t with regs := t.regs.set (regKey select1 select x) v }
    log := s.log ++ [.targetChange select1 select x v] }

end Sys2Proof.Machine
end

