-- ==== Sys2Proof/Machine/Sequencer.lean ====
section
/-! DEFINITION. The sequencer (10_state.md R27, 20_memory.md R62): an operation is a script of
transactions and pure computations. A script runs until it ends or the transport leaves a request
unanswered; what is left of it is computed again from the answers so far, which is the plain data
the state keeps. -/

namespace Sys2Proof.Machine

/-- A script: what the pseudocode of the spec may do next (00_scope.md R15). -/
inductive Script where
  /-- One transaction; the script goes on with its value. -/
  | xfer (role : Role) (r : Request) (k : Word → Script)
  /-- `V6_BOUND <- 1`. -/
  | bindV6 (k : Script)
  /-- `ADDR_WIDTH <- w ; WIDTH_VALID <- 1`. -/
  | recordWidth (w : BitVec 7) (k : Script)
  /-- Reads `ADDR_WIDTH`. -/
  | readWidth (k : BitVec 7 → Script)
  /-- `Diag`, the event already as a word. -/
  | diag (w : PortWord) (k : Script)
  /-- `raise Fail(reason)`. -/
  | fail (reason : Reason)
  /-- `return`, with the response fields but `WIDTH`. -/
  | ret (ok : Bool) (reason : Reason) (cls : BitVec 4) (raddr : Addr) (rdata : Word)

/-- Runs a script (00_scope.md R12, R15): each transaction waits for its answer before the next
(20_memory.md R62); a failing one is `raise Fail(E_TRANSPORT)` (60_exceptions.md R215); one that is
not answered leaves BUSY at 1 and the request outstanding (60_exceptions.md R227). -/
def Script.run : Script → State → State
  | .xfer role r k, s =>
    match s.answer r with
    | .ok v => (k (r.value v)).run ((s.answered role r (.ok v)).advance (r.value v))
    | .err landed => (s.answered role r (.err landed)).raiseFail .eTransport
    | .silent taken => s.wait taken
  | .bindV6 k, s => k.run s.bindV6
  | .recordWidth w k, s => k.run (s.recordWidth w)
  | .readWidth k, s => (k s.addrWidth).run s
  | .diag w k, s => k.run (s.emit w)
  | .fail reason, s => s.raiseFail reason
  | .ret ok reason cls raddr rdata, s => s.answerWith ok reason cls raddr rdata

/-- What is left of a script once the listed values have been answered, at the next transaction. The
effects before it have happened; `w` is `ADDR_WIDTH`. -/
def Script.after (w : BitVec 7) : Script → List Word → Script
  | .xfer role r k, [] => .xfer role r k
  | .xfer _ _ k, v :: vs => (k v).after w vs
  | .bindV6 k, vs => k.after w vs
  | .recordWidth _ k, vs => k.after w vs
  | .readWidth k, vs => (k w).after w vs
  | .diag _ k, vs => k.after w vs
  | .fail reason, _ => .fail reason
  | .ret ok reason cls raddr rdata, _ => .ret ok reason cls raddr rdata

/-- A command is presented: accepted if BUSY is 0, and its script run; left alone if BUSY is 1
(10_state.md R26, 30_encoding.md R91). -/
def State.perform (s : State) (i : Instr) (p : Script) : State :=
  if s.busy then s else p.run (s.accept (encode i))

end Sys2Proof.Machine
end

