-- ==== Sys2Proof/Machine/Select.lean ====
section
/-! DEFINITION. The select sub-sequences and SELB (40_bank_selector.md R113 to R117). Each
sub-sequence takes the script that follows it. -/

namespace Sys2Proof.Machine

/-- `SelectDP(k)` (40_bank_selector.md R113). -/
def selectDP (c : Cfg) (k : BitVec 4) (next : Script) : Script :=
  .xfer .select (.write c.xaddrSelect (selVal c (k.setWidth 32) 0x0000#16)) fun _ => next

/-- The write of SELECT1 (40_bank_selector.md R114). -/
def writeSelect1 (c : Cfg) (a : Addr) (next : Script) : Script :=
  .xfer .select1 (.write c.xaddrSelect1 (hi32 a)) fun _ => next

/-- The write of SELECT for an AP window (40_bank_selector.md R114). -/
def writeSelect (c : Cfg) (a : Addr) (off : Offset) (next : Script) : Script :=
  .xfer .select (.write c.xaddrSelect (selVal c (lo32 a) off)) fun _ => next

/-- `SelectAP(a, off)`, always all three writes in this order (40_bank_selector.md R114 to R116). -/
def selectAP (c : Cfg) (a : Addr) (off : Offset) (next : Script) : Script :=
  selectDP c c.bankSelect1 (writeSelect1 c a (writeSelect c a off next))

/-- The script of SELB (40_bank_selector.md R117). -/
def selbScript (c : Cfg) (hiv : Bool) (off : Offset) (addr : Addr) : Script :=
  let last := writeSelect c addr off (.ret true .none 0#4 0#64 0#32)
  if hiv then selectDP c c.bankSelect1 (writeSelect1 c addr last) else last

/-- SELB (40_bank_selector.md R117). -/
def execSelb (hiv : Bool) (off : Offset) (addr : Addr) (data : Word) (s : State) :
    Host.Outcome State Fault Refusal :=
  .next (s.perform (.selb hiv off addr data) (selbScript s.cfg hiv off addr))

end Sys2Proof.Machine
end

