-- ==== Sys2Proof/Machine/Access.lean ====
section
/-! DEFINITION. The AP register-access translator: APRD and APWR (43_ap_access.md R171, R172). -/

namespace Sys2Proof.Machine

/-- The script of APRD (43_ap_access.md R171). -/
def aprdScript (c : Cfg) (off : Offset) (addr : Addr) : Script :=
  selectAP c addr off <| .xfer .access (.read (xaddrOf off)) fun v =>
    .ret true .none 0#4 0#64 v

/-- APRD (43_ap_access.md R171). -/
def execAprd (off : Offset) (addr : Addr) (data : Word) (s : State) :
    Host.Outcome State Fault Refusal :=
  .next (s.perform (.aprd off addr data) (aprdScript s.cfg off addr))

/-- The script of APWR (43_ap_access.md R172). -/
def apwrScript (c : Cfg) (off : Offset) (addr : Addr) (data : Word) : Script :=
  selectAP c addr off <| .xfer .access (.write (xaddrOf off) data) fun _ =>
    .ret true .none 0#4 0#64 0#32

/-- APWR (43_ap_access.md R172). -/
def execApwr (off : Offset) (addr : Addr) (data : Word) (s : State) :
    Host.Outcome State Fault Refusal :=
  .next (s.perform (.apwr off addr data) (apwrScript s.cfg off addr data))

end Sys2Proof.Machine
end

