-- ==== Sys2Proof/Machine/Base.lean ====
section
/-! DEFINITION. The base-pointer reader and RDBASE (41_base_address.md R133, R138). -/

namespace Sys2Proof.Machine

/-- `ReadBase()` (41_base_address.md R133): four transactions, low half first; the script goes on
with the raw combination. -/
def readBase (c : Cfg) (k : Addr → Script) : Script :=
  selectDP c c.bankBaseptr0 <| .xfer .access (.read c.xaddrBaseptr0) fun lo =>
    selectDP c c.bankBaseptr1 <| .xfer .access (.read c.xaddrBaseptr1) fun hi =>
      k (combine64 lo hi)

/-- The script of RDBASE (41_base_address.md R138). -/
def rdbaseScript (c : Cfg) : Script := readBase c fun raw => .ret true .none 0#4 raw 0#32

/-- RDBASE (41_base_address.md R138). -/
def execRdbase (off : Offset) (addr : Addr) (data : Word) (s : State) :
    Host.Outcome State Fault Refusal :=
  .next (s.perform (.rdbase off addr data) (rdbaseScript s.cfg))

end Sys2Proof.Machine
end

