-- ==== Sys2Proof/Machine/Probe.lean ====
section
/-! DEFINITION. The component prober and PROBE (44_component_probe.md R194 to R198). -/

namespace Sys2Proof.Machine

/-- One lane: the full preamble, then the read (44_component_probe.md R194). -/
def readLane (c : Cfg) (base : Addr) (i : Nat) (k : Word → Script) : Script :=
  selectAP c base (laneOff c i) (.xfer .access (.read (xaddrOf (laneOff c i))) k)

/-- Steps 3 and 4 of the prober: the preamble test, and the dispatch stub after a match
(44_component_probe.md R195 to R197). -/
def probeVerdict (c : Cfg) (base : Addr) (n : Word) (cidr : Word) : Script :=
  if cidrPreambleOk c cidr then
    .ret false .eDispatchUnimplemented (cidrClass c cidr) base cidr
  else
    .diag (diagWord .preambleMismatch .ePreambleMismatch base n) (.fail .ePreambleMismatch)

/-- `Probe(base, n)` (44_component_probe.md R194): lanes 0 to 3, ascending, all four always read
before the test. -/
def probe (c : Cfg) (base : Addr) (n : Word) : Script :=
  readLane c base 0 fun v0 => readLane c base 1 fun v1 => readLane c base 2 fun v2 =>
    readLane c base 3 fun v3 => probeVerdict c base n (cidrAssemble v0 v1 v2 v3)

/-- PROBE (44_component_probe.md R198): `DATA` is the entry number. -/
def execProbe (off : Offset) (addr : Addr) (data : Word) (s : State) :
    Host.Outcome State Fault Refusal :=
  .next (s.perform (.probe off addr data) (probe s.cfg addr data))

end Sys2Proof.Machine
end

