-- ==== Sys2Proof/Machine/Init.lean ====
section
/-! DEFINITION. INIT, Debug Port initialisation and bus-width negotiation (42_dp_init.md R150 to
R158). -/

namespace Sys2Proof.Machine

/-- INIT steps 4 to 7, from the raw base pointer on (42_dp_init.md R155 to R158): validity first,
then range against `ADDR_WIDTH`, then the mask and the prober with entry index 0. -/
def initVerdict (c : Cfg) (raw : Addr) : Script :=
  if baseValid raw then
    .readWidth fun w =>
      if baseFits raw w.toNat then probe c (baseCanon c raw) 0#32
      else .diag (diagWord .invalidBase .eBaseTooWide raw 0#32) (.fail .eBaseTooWide)
  else .diag (diagWord .invalidBase .eNoValidBase raw 0#32) (.fail .eNoValidBase)

/-- INIT from the value of the secondary identification register on (42_dp_init.md R152 to R154): the
diagnostic comes before the support check, and a width that is not supported is not recorded. -/
def initWidth (c : Cfg) (v : Word) : Script :=
  .diag (diagWord .widthDiscovered .none 0#64 (widthOf c v)) <|
    if widthSupported (widthOf c v) then
      .recordWidth ((widthOf c v).setWidth 7) (readBase c (initVerdict c))
    else .fail .eWidthUnsupported

/-- The script of INIT (42_dp_init.md R150): the bind precedes the first transaction (R151). -/
def initScript (c : Cfg) : Script :=
  .bindV6 <| selectDP c c.bankDpidr1 <| .xfer .access (.read c.xaddrDpidr1) (initWidth c)

/-- INIT (42_dp_init.md R150). -/
def execInit (off : Offset) (addr : Addr) (data : Word) (s : State) :
    Host.Outcome State Fault Refusal :=
  .next (s.perform (.init off addr data) (initScript s.cfg))

end Sys2Proof.Machine
end

