-- ==== Sys2Proof/Machine/Resume.lean ====
section
/-! DEFINITION. An operation in flight: which script it is in, its outstanding request, how it goes
on, and the output ports (30_encoding.md R91). -/

namespace Sys2Proof

/-- `x_we` of the outstanding request. -/
def Request.we : Request → Bool
  | .read _ => false
  | .write _ _ => true

/-- `x_addr` of the outstanding request. -/
def Request.xaddr : Request → XAddr
  | .read x => x
  | .write x _ => x

/-- `x_wdata` of the outstanding request, for a write. -/
def Request.wdata : Request → Option Word
  | .read _ => none
  | .write _ d => some d

end Sys2Proof

namespace Sys2Proof.Machine

/-- The script of an operation (30_encoding.md R82, 42_dp_init.md R162(a)). -/
def scriptOf (c : Cfg) : Instr → Script
  | .selb hiv off addr _ => selbScript c hiv off addr
  | .rdbase _ _ _ => rdbaseScript c
  | .init _ _ _ => initScript c
  | .aprd off addr _ => aprdScript c off addr
  | .apwr off addr data => apwrScript c off addr data
  | .probe _ addr data => probe c addr data

/-- The operation in the command latches (10_state.md R21). -/
def State.latched (s : State) : Except Illegal Instr :=
  Command.decode ⟨s.cmd.op, s.cmd.hiv, 0#11, s.cmd.off, s.cmd.addr, s.cmd.data⟩

/-- What is left of the script in flight (10_state.md R27), if one is. -/
def State.remaining (s : State) : Option Script :=
  match s.seq, s.latched with
  | .running vs, .ok i => some ((scriptOf s.cfg i).after s.addrWidth vs)
  | _, _ => none

/-- The outstanding transaction (20_memory.md R51: at most one). -/
def State.outstanding (s : State) : Option (Role × Request) :=
  match s.remaining with
  | some (.xfer role r _) => some (role, r)
  | _ => none

/-- A BUSY machine goes on: it takes up the outstanding request again, or presents its response
again. `none` where the position lies in no script. -/
def State.resume (s : State) : Option State :=
  match s.seq, s.remaining with
  | .responding, _ => some s.offer
  | .running _, some (.xfer role r k) => some ((Script.xfer role r k).run s)
  | _, _ => none

/-- What the write outstanding at a reset leaves at the target if it is carried out all the same
(70_reset_and_hazards.md R242). DESIGN CHOICE: it lands at the reset itself or never, where the spec
leaves the moment open (log 21). The reference target has answered every request already. -/
def State.targetAtReset (s : State) (landed : Bool) : Target :=
  match s.transport, s.outstanding with
  | .live _, some (role, r) => if landed then s.target.land s.cfg s.log role r else s.target
  | _, _ => s.target

/-! ### Output ports (30_encoding.md R91) -/

/-- `cmd_ready`. -/
def State.cmdReady (s : State) : Bool := !s.busy

/-- `rsp_valid`. -/
def State.rspValid (s : State) : Bool := s.seq == .responding

/-- `x_req_valid`: the outstanding request is presented until the transport takes it. -/
def State.xReqValid (s : State) : Bool := s.outstanding.isSome && !s.reqTaken

/-- `diag_valid` is 1 in some cycle of this step; `diagOut` holds the words `diag` carries. -/
def State.diagValid (s : State) : Bool := !s.diagOut.isEmpty

end Sys2Proof.Machine
end

