-- ==== Sys2Proof/Machine/Dispatch.lean ====
section
/-! DEFINITION. One arm per operation. -/

namespace Sys2Proof.Machine

def exec (i : Instr) (s : State) : Host.Outcome State Fault Refusal :=
  match i with
  | .selb hiv off addr data => Sys2Proof.Machine.execSelb hiv off addr data s
  | .rdbase off addr data => Sys2Proof.Machine.execRdbase off addr data s
  | .init off addr data => Sys2Proof.Machine.execInit off addr data s
  | .aprd off addr data => Sys2Proof.Machine.execAprd off addr data s
  | .apwr off addr data => Sys2Proof.Machine.execApwr off addr data s
  | .probe off addr data => Sys2Proof.Machine.execProbe off addr data s

end Sys2Proof.Machine
end

