-- ==== Sys2Proof/Machine/Step.lean ====
section
/-! DEFINITION. One step: the next input happens, or the operation in flight goes on, or BSE waits. -/

namespace Sys2Proof.Machine

/-- An idle BSE accepts a command word (30_encoding.md R91): a legal one is executed, an illegal one
answered (R84). -/
def present (w : PortWord) (s : State) : Host.Outcome State Fault Refusal :=
  match decode w with
  | .ok i => exec i s
  | .error _ => .next (s.rejectWord w)

/-- A step in which the operation in flight goes on, or an idle BSE waits for a command
(70_reset_and_hazards.md R240). -/
def goOn (s : State) : Host.Outcome State Fault Refusal :=
  if s.busy then
    match s.resume with
    | some t => .next t
    | none => .fault .strayPosition
  else .next s

/-- The next move of the system: the head of `inputs` says who moves (log 2). A command waits in
`inputs` while BUSY is 1 (30_encoding.md R91). -/
def move (s : State) : Host.Outcome State Fault Refusal :=
  match s.inputs with
  | .command w :: rest => if s.busy then goOn s else present w { s with inputs := rest }
  | .quiet :: rest => goOn { s with inputs := rest }
  | .ready b :: rest => .next (State.setReady { s with inputs := rest } b)
  | .rst landed :: rest =>
    .next (State.hardReset { s with inputs := rest } (s.targetAtReset landed) landed)
  | .otherUsers select select1 :: rest =>
    .next (State.interfere { s with inputs := rest } select select1)
  | .targetChange select1 select x v :: rest =>
    .next (State.targetChange { s with inputs := rest } select1 select x v)
  | [] => goOn s

/-- One step of the system. -/
def step (s : State) : Host.Outcome State Fault Refusal :=
  if s.cfg.wf = false then .refused .illFormedCfg else move s.beginStep

/-- `s` with a command word presented to an idle BSE, so that the next step executes it (log 2). -/
def State.withFetchWord (s : State) (nbits w : Nat) : State :=
  { s with
    busy := false
    seq := .idle
    inputs := .command (BitVec.ofNat 128 (w % 2 ^ nbits)) :: s.inputs }

end Sys2Proof.Machine
end

