-- ==== Sys2Proof/Safety.lean ====
section
/-! DEFINITION. What claims about the machine speak of: the events of a trace, the state an operation
that ran to its end leaves, the invariant of every reachable state, and what is counted over a log. -/

namespace Sys2Proof.Machine

/-! ### Events of a trace (00_scope.md R18) -/

/-- `W XADDR_SELECT := v`. -/
def evSelect (c : Cfg) (v : Word) : Event := .xfer (.write c.xaddrSelect v) (.ok 0#32)

/-- `W XADDR_SELECT := zext_32(k)`, the select of DP bank `k` (40_bank_selector.md R113). -/
def evBank (c : Cfg) (k : BitVec 4) : Event := evSelect c (k.setWidth 32)

/-- `W XADDR_SELECT1 := v`. -/
def evSelect1 (c : Cfg) (v : Word) : Event := .xfer (.write c.xaddrSelect1 v) (.ok 0#32)

/-- `R x -> v`. -/
def evRead (x : XAddr) (v : Word) : Event := .xfer (.read x) (.ok v)

/-- `W x := v`. -/
def evWrite (x : XAddr) (v : Word) : Event := .xfer (.write x v) (.ok 0#32)

/-- The three writes of the AP preamble (40_bank_selector.md R114). -/
def evPreamble (c : Cfg) (a : Addr) (off : Offset) : List Event :=
  [evBank c c.bankSelect1, evSelect1 c (hi32 a), evSelect c (selVal c (lo32 a) off)]

/-- One lane read that answered `v` (44_component_probe.md R194). -/
def evLane (c : Cfg) (base : Addr) (i : Nat) (v : Word) : List Event :=
  evPreamble c base (laneOff c i) ++ [evRead (xaddrOf (laneOff c i)) v]

/-- The sixteen transactions of a probe whose lanes answered `v0` to `v3` (44_component_probe.md
R194). -/
def evProbe (c : Cfg) (base : Addr) (v0 v1 v2 v3 : Word) : List Event :=
  evLane c base 0 v0 ++ evLane c base 1 v1 ++ evLane c base 2 v2 ++ evLane c base 3 v3

/-- The four transactions of the base-pointer reader (41_base_address.md R133). -/
def evBase (c : Cfg) (lo hi : Word) : List Event :=
  [evBank c c.bankBaseptr0, evRead c.xaddrBaseptr0 lo,
    evBank c c.bankBaseptr1, evRead c.xaddrBaseptr1 hi]

/-- The two transactions of INIT step 2 and the diagnostic that follows (42_dp_init.md R152). -/
def evWidth (c : Cfg) (v : Word) : List Event :=
  [evBank c c.bankDpidr1, evRead c.xaddrDpidr1 v,
    .diag (diagWord .widthDiscovered .none 0#64 (widthOf c v))]

/-- The target-side pair after an AP preamble (40_bank_selector.md R115). -/
def apTarget (c : Cfg) (a : Addr) (off : Offset) : Target := ⟨selVal c (lo32 a) off, hi32 a⟩

/-! ### Answers of the open transport that let an operation through

The answer to a write carries a value too; it is arbitrary, because BSE does not look at it. -/

/-- Three writes and a read that answers `v`. -/
def okLane (a b c v : Word) : List Answer := [.ok a, .ok b, .ok c, .ok v]

/-- Two selects and two reads that answer `lo` and `hi`. -/
def okBase (a lo b hi : Word) : List Answer := [.ok a, .ok lo, .ok b, .ok hi]

/-- The diagnostic words among some events (30_encoding.md R92). -/
def diags : List Event → List PortWord
  | [] => []
  | .diag w :: es => w :: diags es
  | _ :: es => diags es

/-! ### Ends of operations -/

/-- The latches a command leaves (10_state.md R21). -/
def latchesOf (i : Instr) : CommandLatches :=
  ⟨i.command.op, i.command.hiv, i.command.off, i.command.addr, i.command.data⟩

/-- The response of `raise Fail(reason)` with `WIDTH = w` (60_exceptions.md R214). -/
def failResponse (reason : Reason) (w : BitVec 7) : Response :=
  ⟨false, reason.code, 0#4, w, 0#64, 0#32⟩

/-- `s` after the operation `i` ran to its end: `evs` passed the ports in between, the target side is
left at `tgt`, the open transport's list at `rest`; the response is taken at once if `rsp_ready` is 1,
else presented (30_encoding.md R91). Every other field is as in `s`. -/
def State.completed (s : State) (i : Instr) (evs : List Event) (tgt : Target)
    (rest : List Answer) (r : Response) : State :=
  { s with
    cmd := latchesOf i
    rsp := r
    busy := !s.hostReady
    seq := if s.hostReady then .idle else .responding
    diagOut := s.diagOut ++ diags evs
    target := tgt
    transport := .live rest
    reqTaken := false
    waits := 0
    log := s.log ++ .accept (encode i) :: (evs ++ if s.hostReady then [.response r.word] else []) }

/-- `State.completed` after an INIT that recorded the width `w` (42_dp_init.md R151, R152). -/
def State.completedInit (s : State) (i : Instr) (evs : List Event) (tgt : Target)
    (rest : List Answer) (r : Response) (w : BitVec 7) : State :=
  { s.completed i evs tgt rest r with v6Bound := true, widthValid := true, addrWidth := w }

/-- The operation in the latches has its response (10_state.md R22): it is presented or taken. -/
def State.Ended (s : State) : Prop := ∀ vs, s.seq ≠ .running vs

/-- A step that the operation `i` takes: BSE accepts it, or goes on with it while it runs. -/
def State.Runs (s : State) (i : Instr) (t : State) : Prop :=
  s.busy = false ∧ exec i s = .next t ∨ ¬ s.Ended ∧ s.latched = .ok i ∧ s.resume = some t

/-! ### Over a log -/

/-- A transaction. -/
def Event.isXfer : Event → Bool
  | .xfer _ _ => true
  | _ => false

/-- The trace: the transactions among some events (00_scope.md R18). -/
def trace (es : List Event) : List Event := es.filter Event.isXfer

/-- The commands accepted among some events. -/
def accepts : List Event → Nat
  | [] => 0
  | .accept _ :: es => accepts es + 1
  | _ :: es => accepts es

/-- The responses taken among some events. -/
def responses : List Event → Nat
  | [] => 0
  | .response _ :: es => responses es + 1
  | _ :: es => responses es

/-- The operations abandoned by a reset among some events (70_reset_and_hazards.md R242). -/
def abandons : List Event → Nat
  | [] => 0
  | .reset true _ :: es => abandons es + 1
  | _ :: es => abandons es

/-- Every command accepted has had its response, was abandoned by a reset, or is in flight
(30_encoding.md R91, "Exactly one response follows each accepted command"). -/
def State.Accounted (s : State) : Prop :=
  accepts s.log = responses s.log + abandons s.log + s.busy.toNat

/-- A diagnostic. -/
def Event.isDiag : Event → Bool
  | .diag _ => true
  | _ => false

/-- A transaction that failed. -/
def Event.failed : Event → Bool
  | .xfer _ (.err _) => true
  | _ => false

/-! ### The invariant of every reachable state -/

/-- What holds in every reachable state: 10_state.md R34 (a) to (c), the sequencer's position lies in
the script of the latched operation, no reserved reason code (30_encoding.md R86), a well-formed
configuration, and a canonical register map at the reference target. -/
structure State.Inv (s : State) : Prop where
  cfgWf : s.cfg.wf = true
  /-- R34 (a). -/
  widthRange : s.widthValid = true → 32 ≤ s.addrWidth.toNat ∧ s.addrWidth.toNat ≤ 64
  /-- R34 (b). -/
  widthBound : s.widthValid = true → s.v6Bound = true
  /-- R34 (c). -/
  widthUnlearned : s.widthValid = false → s.addrWidth = 0#7
  /-- R26, R34 (d): BUSY is 0 exactly when no operation is in flight. -/
  busySeq : s.busy = true ↔ s.seq ≠ .idle
  /-- R27, R51: a running operation has its next transaction outstanding. -/
  position : ∀ vs, s.seq = .running vs → s.outstanding.isSome = true
  /-- R91: only an outstanding request can have been taken. -/
  taken : s.reqTaken = true → ∃ vs, s.seq = .running vs
  /-- R151: an INIT in flight has bound already. -/
  initBound : ∀ vs, s.seq = .running vs → s.cmd.op = 3#4 → s.v6Bound = true
  /-- R86: codes 8 to 15 are never produced. -/
  reasonCode : s.rsp.reason.toNat ≤ 7
  /-- R67: the register map keeps its canonical form. -/
  regsWf : ∀ r, s.transport = .reference r → r.regs.wf = true

end Sys2Proof.Machine
end

