-- ==== Sys2Proof/Certificates/Slice0/Obligations.lean ====
section
/-! DEFINITION. The statements for the provers. A conclusion `exec i s = .next (s.completed …)` names
every field of the state after the operation, so it is the operation's result, its completion and its
frame at once: what `State.completed` does not list is as it was in `s`. -/

open Sys2Proof Sys2Proof.Machine

/-! ### Encoding -/

/-- 30_encoding.md R80, R82, R83. -/
def Obligations.DecodeInvertsEncode : Prop :=
  ∀ i : Instr, i.wellFormed = true → decode (encode i) = .ok i

/-- 30_encoding.md R80, R82, R83: no legal word is read as an operation with another word. -/
def Obligations.EncodeInvertsDecode : Prop :=
  ∀ (w : PortWord) (i : Instr), decode w = .ok i → encode i = w ∧ i.wellFormed = true

/-- 30_encoding.md R84, the list of illegal words. -/
def Obligations.DecodeRejectsExactlyTheIllegalWords : Prop :=
  ∀ w : PortWord, (∃ e, decode w = .error e) ↔
    w.extractLsb' 124 4 = 0x0#4 ∨ 0x7#4 ≤ w.extractLsb' 124 4 ∨ w.extractLsb' 112 11 ≠ 0#11 ∨
      w.getLsbD 123 = true ∧ w.extractLsb' 124 4 ≠ 0x1#4

/-- 30_encoding.md R90, the worked encodings. -/
def Obligations.WorkedEncodingsDecode : Prop :=
  decode 0x30000000000000000000000000000000#128 = .ok Asm.init ∧
  decode 0x20000000000000000000000000000000#128 = .ok Asm.rdbase ∧
  decode 0x4000D1F8000000010000200000000000#128 = .ok (Asm.aprd 0x0000000100002000#64 0xD1F8#16) ∧
  decode 0x5000D1040000000100002000CAFEF00D#128 =
    .ok (Asm.apwr 0x0000000100002000#64 0xD104#16 0xCAFEF00D#32) ∧
  decode 0x60000000000000000000100000000000#128 =
    .ok (Asm.probe 0x0000000000001000#64 0x00000000#32) ∧
  decode 0x1800D1F8000000010000200000000000#128 =
    .ok (Asm.selb 0x0000000100002000#64 0xD1F8#16 true) ∧
  decode 0x10000000000000000000000200000000#128 = .ok (Asm.seldp 2#4)

/-- 30_encoding.md R85, the fields of a response word. -/
def Obligations.ResponseWordHoldsItsFields : Prop :=
  ∀ r : Response,
    r.word.getLsbD 127 = r.ok ∧ r.word.extractLsb' 123 4 = r.reason ∧
    r.word.extractLsb' 119 4 = r.cls ∧ r.word.extractLsb' 112 7 = r.width ∧
    r.word.extractLsb' 96 16 = 0#16 ∧ r.word.extractLsb' 32 64 = r.raddr ∧
    r.word.extractLsb' 0 32 = r.rdata

/-- 30_encoding.md R92, the fields of a diagnostic word, with the codes of R92 and R86. -/
def Obligations.DiagnosticWordHoldsItsFields : Prop :=
  ∀ (k : DiagKind) (q : Reason) (base : Addr) (info : Word),
    (diagWord k q base info).extractLsb' 124 4 = (match k with
      | .widthDiscovered => 1#4
      | .invalidBase => 2#4
      | .preambleMismatch => 3#4) ∧
    (diagWord k q base info).extractLsb' 120 4 = (match q with
      | .none => 0#4
      | .eTransport => 1#4
      | .eNoValidBase => 2#4
      | .eBaseTooWide => 3#4
      | .ePreambleMismatch => 4#4
      | .eDispatchUnimplemented => 5#4
      | .eWidthUnsupported => 6#4
      | .eIllegal => 7#4) ∧
    (diagWord k q base info).extractLsb' 96 24 = 0#24 ∧
    (diagWord k q base info).extractLsb' 32 64 = base ∧
    (diagWord k q base info).extractLsb' 0 32 = info

/-! ### The datapath units -/

/-- 40_bank_selector.md R111: the formula for every `Cfg`, and its picture under `Cfg.default`. -/
def Obligations.SelValPlacesBothNibbles : Prop :=
  (∀ (c : Cfg) (lo : Word) (off : Offset), selVal c lo off =
    lo ||| ((off &&& c.apBankHiMask) >>> 4).setWidth 32 ||| (off &&& c.apBankLoMask).setWidth 32) ∧
  (∀ (lo : Word) (off : Offset),
    (selVal Cfg.default lo off).extractLsb' 12 20 = lo.extractLsb' 12 20 ∧
    (selVal Cfg.default lo off).extractLsb' 8 4 = (lo.extractLsb' 8 4 ||| off.extractLsb' 12 4) ∧
    (selVal Cfg.default lo off).extractLsb' 4 4 = (lo.extractLsb' 4 4 ||| off.extractLsb' 4 4) ∧
    (selVal Cfg.default lo off).extractLsb' 0 4 = lo.extractLsb' 0 4) ∧
  selVal Cfg.default 0x00002000#32 0xD1F8#16 = 0x00002DF0#32

/-- 40_bank_selector.md R119 (a) to (d). -/
def Obligations.SelValKeepsTheAddressAndIsInjective : Prop :=
  (∀ (c : Cfg) (lo : Word) (off : Offset), selVal c lo off &&& lo = lo) ∧
  (∀ (c : Cfg) (off : Offset), selVal c 0#32 off &&&
    ~~~((c.apBankHiMask >>> 4).setWidth 32 ||| c.apBankLoMask.setWidth 32) = 0#32) ∧
  (∀ off : Offset, selVal Cfg.default 0#32 off &&& ~~~0x00000FF0#32 = 0#32) ∧
  (∀ (c : Cfg) (lo : Word) (off off' : Offset), bankOf c off = bankOf c off' →
    selVal c lo off = selVal c lo off') ∧
  (∀ (lo : Word) (off off' : Offset), off &&& 0xF0F0#16 = off' &&& 0xF0F0#16 →
    selVal Cfg.default lo off = selVal Cfg.default lo off') ∧
  (∀ (lo lo' : Word) (off off' : Offset), lo &&& 0x00000FF0#32 = 0#32 →
    lo' &&& 0x00000FF0#32 = 0#32 → selVal Cfg.default lo off = selVal Cfg.default lo' off' →
    lo = lo' ∧ bankOf Cfg.default off = bankOf Cfg.default off')

/-- 40_bank_selector.md R118: the offset that selects the window of a 12-bit component register. -/
def Obligations.OffsetForSelectsTheRegistersWindow : Prop :=
  (∀ (a : Addr) (x : XAddr) (flags : BitVec 4), a.extractLsb' 4 8 = 0#8 →
    (selVal Cfg.default (lo32 a) (offsetFor x flags)).extractLsb' 4 8 = x.extractLsb' 4 8 ∧
    (xaddrOf (offsetFor x flags)).extractLsb' 0 8 = x.extractLsb' 0 8 ∧
    (xaddrOf (offsetFor x flags)).extractLsb' 8 4 = flags) ∧
  offsetFor 0xFF0#12 0#4 = Cfg.default.cidrBaseOffset

/-- 41_base_address.md R132. -/
def Obligations.SplitAndCombineRoundTrip : Prop :=
  (∀ a : Addr, combine64 (lo32 a) (hi32 a) = a) ∧
  ∀ lo hi : Word, lo32 (combine64 lo hi) = lo ∧ hi32 (combine64 lo hi) = hi

/-- 41_base_address.md R135: the natural-number form, the mask form for widths to 63, width 64, and
the form an implementation computes. -/
def Obligations.BaseFitsAgreesWithTheMaskForm : Prop :=
  ∀ (raw : Addr) (w : Nat),
    (baseFits raw w = true ↔ raw.toNat < 2 ^ w) ∧
    (w ≤ 63 → (baseFits raw w = true ↔ raw &&& (1#64 <<< w - 1#64) = raw)) ∧
    (w = 64 → baseFits raw w = true) ∧
    (baseFits raw w = true ↔ w ≥ 64 ∨ raw >>> w = 0#64)

/-- 44_component_probe.md R190: lane `i` fills byte `i`, and nothing above bit 7 of a lane counts. -/
def Obligations.CidrAssembleTakesOneBytePerLane : Prop :=
  ∀ v0 v1 v2 v3 : Word,
    (cidrAssemble v0 v1 v2 v3).extractLsb' 0 8 = v0.extractLsb' 0 8 ∧
    (cidrAssemble v0 v1 v2 v3).extractLsb' 8 8 = v1.extractLsb' 0 8 ∧
    (cidrAssemble v0 v1 v2 v3).extractLsb' 16 8 = v2.extractLsb' 0 8 ∧
    (cidrAssemble v0 v1 v2 v3).extractLsb' 24 8 = v3.extractLsb' 0 8

/-- 44_component_probe.md R192, R193: exactly the sixteen identifiers made of the preamble and a class
nibble pass, each with its own class. -/
def Obligations.PreambleTestIgnoresTheClass : Prop :=
  ∀ c : Cfg, c.wf = true →
    (∀ x : Word, cidrPreambleOk c x = true ↔
      x = (c.cidPreamble ||| ((cidrClass c x).setWidth 32 <<< c.cidClassShift.toNat))) ∧
    ∀ k : BitVec 4,
      cidrPreambleOk c (c.cidPreamble ||| (k.setWidth 32 <<< c.cidClassShift.toNat)) = true ∧
      cidrClass c (c.cidPreamble ||| (k.setWidth 32 <<< c.cidClassShift.toNat)) = k

/-! ### A step and its command -/

/-- The step fetches a command from the host, takes it off the inputs and runs it; it adds nothing
else but that a step begins with nothing on the diagnostic port (30_encoding.md R91; log 2 for
`inputs`, log 14 for `diagOut`). -/
def Obligations.StepRunsTheDecodedCommand : Prop :=
  ∀ (s : State) (w : PortWord) (rest : List Input) (i : Instr),
    s.cfg.wf = true → s.busy = false → s.inputs = .command w :: rest → decode w = .ok i →
    step s = exec i { s with inputs := rest, diagOut := [] }

/-- 10_state.md R26: while BUSY is 1 the command port accepts nothing; the command stays presented
(logs 2 and 11: `inputs`, and `exec` on a BUSY state). -/
def Obligations.CommandWaitsWhileBusy : Prop :=
  (∀ (i : Instr) (s : State), s.busy = true → exec i s = .next s) ∧
  ∀ (s t : State) (w : PortWord) (rest : List Input), s.busy = true →
    s.inputs = .command w :: rest → step s = .next t → t.inputs = s.inputs ∧ t.cmd = s.cmd

/-- 30_encoding.md R84, 60_exceptions.md R218: of BSE's registers only the response latches and BUSY
change (`seq` and `log` say that the response was taken or is presented). -/
def Obligations.IllegalWordIsAnsweredWithoutEffect : Prop :=
  ∀ (s : State) (w : PortWord) (rest : List Input), s.cfg.wf = true → s.busy = false →
    s.inputs = .command w :: rest →
    (w.extractLsb' 124 4 = 0x0#4 ∨ 0x7#4 ≤ w.extractLsb' 124 4 ∨ w.extractLsb' 112 11 ≠ 0#11 ∨
      w.getLsbD 123 = true ∧ w.extractLsb' 124 4 ≠ 0x1#4) →
    step s = .next { s with
      inputs := rest
      rsp := ⟨false, 7#4, 0#4, s.addrWidth, 0#64, 0#32⟩
      busy := !s.hostReady
      seq := if s.hostReady then .idle else .responding
      diagOut := []
      log := s.log ++ .accept w :: (if s.hostReady then
        [.response (Response.word ⟨false, 7#4, 0#4, s.addrWidth, 0#64, 0#32⟩)] else []) }

/-! ### SELB, RDBASE, APRD, APWR -/

/-- 40_bank_selector.md R117 with `HIV = 1`, R114, R115, R248. -/
def Obligations.SelbWithExtensionWritesSelect1AndSelect : Prop :=
  ∀ (s : State) (off : Offset) (addr : Addr) (data a b c : Word) (rest : List Answer),
    s.busy = false → s.transport = .live (.ok a :: .ok b :: .ok c :: rest) →
    exec (.selb true off addr data) s = .next (s.completed (.selb true off addr data)
      (evPreamble s.cfg addr off) (apTarget s.cfg addr off) rest
      ⟨true, 0#4, 0#4, s.addrWidth, 0#64, 0#32⟩)

/-- 40_bank_selector.md R117 with `HIV = 0`, R248: one write, SELECT1 as it was. -/
def Obligations.SelbWithoutExtensionLeavesSelect1 : Prop :=
  ∀ (s : State) (off : Offset) (addr : Addr) (data a : Word) (rest : List Answer),
    s.busy = false → s.transport = .live (.ok a :: rest) →
    exec (.selb false off addr data) s = .next (s.completed (.selb false off addr data)
      [evSelect s.cfg (selVal s.cfg (lo32 addr) off)]
      ⟨selVal s.cfg (lo32 addr) off, s.target.select1⟩ rest
      ⟨true, 0#4, 0#4, s.addrWidth, 0#64, 0#32⟩)

/-- 30_encoding.md R90, 40_bank_selector.md R113: `SELDP k` is the select of DP bank `k`. -/
def Obligations.SeldpSelectsTheBank : Prop :=
  ∀ (s : State) (k : BitVec 4) (a : Word) (rest : List Answer),
    s.busy = false → s.transport = .live (.ok a :: rest) →
    exec (Asm.seldp k) s = .next (s.completed (Asm.seldp k) [evBank s.cfg k]
      ⟨k.setWidth 32, s.target.select1⟩ rest ⟨true, 0#4, 0#4, s.addrWidth, 0#64, 0#32⟩)

/-- 41_base_address.md R138, R133: the raw pointer, unvalidated and unmasked. -/
def Obligations.RdbaseReturnsTheRawPointer : Prop :=
  ∀ (s : State) (off : Offset) (addr : Addr) (data a lo b hi : Word) (rest : List Answer),
    s.busy = false → s.transport = .live (okBase a lo b hi ++ rest) →
    exec (.rdbase off addr data) s = .next (s.completed (.rdbase off addr data)
      (evBase s.cfg lo hi) ⟨s.cfg.bankBaseptr1.setWidth 32, s.target.select1⟩ rest
      ⟨true, 0#4, 0#4, s.addrWidth, combine64 lo hi, 0#32⟩)

/-- 43_ap_access.md R171, R175. -/
def Obligations.AprdReadsTheBankedRegister : Prop :=
  ∀ (s : State) (off : Offset) (addr : Addr) (data a b c v : Word) (rest : List Answer),
    s.busy = false → s.transport = .live (okLane a b c v ++ rest) →
    exec (.aprd off addr data) s = .next (s.completed (.aprd off addr data)
      (evPreamble s.cfg addr off ++ [evRead (xaddrOf off) v]) (apTarget s.cfg addr off) rest
      ⟨true, 0#4, 0#4, s.addrWidth, 0#64, v⟩)

/-- 43_ap_access.md R172, R175. -/
def Obligations.ApwrWritesTheBankedRegister : Prop :=
  ∀ (s : State) (off : Offset) (addr : Addr) (data a b c d : Word) (rest : List Answer),
    s.busy = false → s.transport = .live (okLane a b c d ++ rest) →
    exec (.apwr off addr data) s = .next (s.completed (.apwr off addr data)
      (evPreamble s.cfg addr off ++ [evWrite (xaddrOf off) data]) (apTarget s.cfg addr off) rest
      ⟨true, 0#4, 0#4, s.addrWidth, 0#64, 0#32⟩)

/-- 43_ap_access.md R171, R172, 60_exceptions.md R215, R221: where an AP access fails, and what that
leaves in SELECT and SELECT1. `l` says whether the failed write landed (log 6). -/
def Obligations.ApAccessFailsAtEachTransaction : Prop :=
  ∀ (s : State) (off : Offset) (addr : Addr) (data a b c : Word) (l : Bool) (rest : List Answer)
    (i : Instr), i = .aprd off addr data ∨ i = .apwr off addr data → s.busy = false →
    (s.transport = .live (.err l :: rest) → exec i s = .next (s.completed i
      [.xfer (.write s.cfg.xaddrSelect (s.cfg.bankSelect1.setWidth 32)) (.err l)]
      ⟨if l then s.cfg.bankSelect1.setWidth 32 else s.target.select, s.target.select1⟩ rest
      (⟨false, 1#4, 0#4, s.addrWidth, 0#64, 0#32⟩))) ∧
    (s.transport = .live (.ok a :: .err l :: rest) → exec i s = .next (s.completed i
      [evBank s.cfg s.cfg.bankSelect1, .xfer (.write s.cfg.xaddrSelect1 (hi32 addr)) (.err l)]
      ⟨s.cfg.bankSelect1.setWidth 32, if l then hi32 addr else s.target.select1⟩ rest
      (⟨false, 1#4, 0#4, s.addrWidth, 0#64, 0#32⟩))) ∧
    (s.transport = .live (.ok a :: .ok b :: .err l :: rest) → exec i s = .next (s.completed i
      [evBank s.cfg s.cfg.bankSelect1, evSelect1 s.cfg (hi32 addr),
        .xfer (.write s.cfg.xaddrSelect (selVal s.cfg (lo32 addr) off)) (.err l)]
      ⟨if l then selVal s.cfg (lo32 addr) off else s.cfg.bankSelect1.setWidth 32, hi32 addr⟩ rest
      (⟨false, 1#4, 0#4, s.addrWidth, 0#64, 0#32⟩))) ∧
    (s.transport = .live (.ok a :: .ok b :: .ok c :: .err l :: rest) →
      exec i s = .next (s.completed i
        (evPreamble s.cfg addr off ++
          [if i = .aprd off addr data then .xfer (.read (xaddrOf off)) (.err false)
            else .xfer (.write (xaddrOf off) data) (.err l)])
        (apTarget s.cfg addr off) rest (⟨false, 1#4, 0#4, s.addrWidth, 0#64, 0#32⟩)))

/-! ### PROBE -/

/-- 44_component_probe.md R196, R197, R198: the preamble matched. -/
def Obligations.ProbeReportsAMatchAndStops : Prop :=
  ∀ (s : State) (off : Offset) (addr : Addr)
    (data a0 b0 c0 v0 a1 b1 c1 v1 a2 b2 c2 v2 a3 b3 c3 v3 : Word) (rest : List Answer), s.busy = false →
    s.transport = .live (okLane a0 b0 c0 v0 ++ okLane a1 b1 c1 v1 ++ okLane a2 b2 c2 v2 ++
      okLane a3 b3 c3 v3 ++ rest) →
    cidrPreambleOk s.cfg (cidrAssemble v0 v1 v2 v3) = true →
    exec (.probe off addr data) s = .next (s.completed (.probe off addr data)
      (evProbe s.cfg addr v0 v1 v2 v3) (apTarget s.cfg addr (laneOff s.cfg 3)) rest
      ⟨false, 5#4, cidrClass s.cfg (cidrAssemble v0 v1 v2 v3), s.addrWidth, addr,
        cidrAssemble v0 v1 v2 v3⟩)

/-- 44_component_probe.md R195: the preamble did not match. -/
def Obligations.ProbeReportsNothingOnAMismatch : Prop :=
  ∀ (s : State) (off : Offset) (addr : Addr)
    (data a0 b0 c0 v0 a1 b1 c1 v1 a2 b2 c2 v2 a3 b3 c3 v3 : Word) (rest : List Answer), s.busy = false →
    s.transport = .live (okLane a0 b0 c0 v0 ++ okLane a1 b1 c1 v1 ++ okLane a2 b2 c2 v2 ++
      okLane a3 b3 c3 v3 ++ rest) →
    cidrPreambleOk s.cfg (cidrAssemble v0 v1 v2 v3) = false →
    exec (.probe off addr data) s = .next (s.completed (.probe off addr data)
      (evProbe s.cfg addr v0 v1 v2 v3 ++
        [.diag (diagWord .preambleMismatch .ePreambleMismatch addr data)])
      (apTarget s.cfg addr (laneOff s.cfg 3)) rest ⟨false, 4#4, 0#4, s.addrWidth, 0#64, 0#32⟩)

/-! ### INIT -/

/-- 42_dp_init.md R151: the bind has happened whatever the transport does. -/
def Obligations.InitBindsBeforeAnyTransaction : Prop :=
  ∀ (s t : State) (off : Offset) (addr : Addr) (data : Word), s.busy = false →
    exec (.init off addr data) s = .next t → t.v6Bound = true

/-- 42_dp_init.md R153: an unsupported width is not recorded and nothing further is read. -/
def Obligations.InitRejectsAnUnsupportedWidth : Prop :=
  ∀ (s : State) (off : Offset) (addr : Addr) (data a v : Word) (rest : List Answer), s.busy = false →
    s.transport = .live (.ok a :: .ok v :: rest) →
    (v &&& s.cfg.widthMask).toNat < 32 ∨ 64 < (v &&& s.cfg.widthMask).toNat →
    exec (.init off addr data) s = .next { s.completed (.init off addr data) (evWidth s.cfg v)
      ⟨s.cfg.bankDpidr1.setWidth 32, s.target.select1⟩ rest
      ⟨false, 6#4, 0#4, s.addrWidth, 0#64, 0#32⟩ with v6Bound := true }

/-- 42_dp_init.md R155: the validity bit is clear; no component probe is attempted. -/
def Obligations.InitRejectsAnInvalidBase : Prop :=
  ∀ (s : State) (off : Offset) (addr : Addr) (data a v b lo c hi : Word) (rest : List Answer),
    s.busy = false → s.transport = .live (.ok a :: .ok v :: okBase b lo c hi ++ rest) →
    widthSupported (widthOf s.cfg v) = true → (combine64 lo hi).getLsbD 0 = false →
    exec (.init off addr data) s = .next (s.completedInit (.init off addr data)
      (evWidth s.cfg v ++ evBase s.cfg lo hi ++
        [.diag (diagWord .invalidBase .eNoValidBase (combine64 lo hi) 0#32)])
      ⟨s.cfg.bankBaseptr1.setWidth 32, s.target.select1⟩ rest
      ⟨false, 2#4, 0#4, (widthOf s.cfg v).setWidth 7, 0#64, 0#32⟩ ((widthOf s.cfg v).setWidth 7))

/-- 42_dp_init.md R156: the base pointer does not fit the width just learned; the raw value is
tested. -/
def Obligations.InitRejectsABaseTooWide : Prop :=
  ∀ (s : State) (off : Offset) (addr : Addr) (data a v b lo c hi : Word) (rest : List Answer),
    s.busy = false → s.transport = .live (.ok a :: .ok v :: okBase b lo c hi ++ rest) →
    widthSupported (widthOf s.cfg v) = true → (combine64 lo hi).getLsbD 0 = true →
    2 ^ (widthOf s.cfg v).toNat ≤ (combine64 lo hi).toNat →
    exec (.init off addr data) s = .next (s.completedInit (.init off addr data)
      (evWidth s.cfg v ++ evBase s.cfg lo hi ++
        [.diag (diagWord .invalidBase .eBaseTooWide (combine64 lo hi) 0#32)])
      ⟨s.cfg.bankBaseptr1.setWidth 32, s.target.select1⟩ rest
      ⟨false, 3#4, 0#4, (widthOf s.cfg v).setWidth 7, 0#64, 0#32⟩ ((widthOf s.cfg v).setWidth 7))

/-- 42_dp_init.md R150, R157, R158, R161: INIT reaches the end of the prober and the preamble
matches; twenty-two transactions. -/
def Obligations.InitProbesTheCanonicalBase : Prop :=
  ∀ (s : State) (off : Offset) (addr : Addr)
    (data a v b lo c hi a0 b0 c0 v0 a1 b1 c1 v1 a2 b2 c2 v2 a3 b3 c3 v3 : Word)
    (rest : List Answer), s.busy = false →
    s.transport = .live (.ok a :: .ok v :: okBase b lo c hi ++ okLane a0 b0 c0 v0 ++
      okLane a1 b1 c1 v1 ++ okLane a2 b2 c2 v2 ++ okLane a3 b3 c3 v3 ++ rest) →
    widthSupported (widthOf s.cfg v) = true → baseValid (combine64 lo hi) = true →
    baseFits (combine64 lo hi) (widthOf s.cfg v).toNat = true →
    cidrPreambleOk s.cfg (cidrAssemble v0 v1 v2 v3) = true →
    exec (.init off addr data) s = .next (s.completedInit (.init off addr data)
      (evWidth s.cfg v ++ evBase s.cfg lo hi ++
        evProbe s.cfg (baseCanon s.cfg (combine64 lo hi)) v0 v1 v2 v3)
      (apTarget s.cfg (baseCanon s.cfg (combine64 lo hi)) (laneOff s.cfg 3)) rest
      ⟨false, 5#4, cidrClass s.cfg (cidrAssemble v0 v1 v2 v3), (widthOf s.cfg v).setWidth 7,
        baseCanon s.cfg (combine64 lo hi), cidrAssemble v0 v1 v2 v3⟩
      ((widthOf s.cfg v).setWidth 7))

/-- 42_dp_init.md R158, 44_component_probe.md R195: INIT's probe finds no component; the diagnostic
names the canonical base and entry 0. -/
def Obligations.InitReportsAPreambleMismatch : Prop :=
  ∀ (s : State) (off : Offset) (addr : Addr)
    (data a v b lo c hi a0 b0 c0 v0 a1 b1 c1 v1 a2 b2 c2 v2 a3 b3 c3 v3 : Word)
    (rest : List Answer), s.busy = false →
    s.transport = .live (.ok a :: .ok v :: okBase b lo c hi ++ okLane a0 b0 c0 v0 ++
      okLane a1 b1 c1 v1 ++ okLane a2 b2 c2 v2 ++ okLane a3 b3 c3 v3 ++ rest) →
    widthSupported (widthOf s.cfg v) = true → baseValid (combine64 lo hi) = true →
    baseFits (combine64 lo hi) (widthOf s.cfg v).toNat = true →
    cidrPreambleOk s.cfg (cidrAssemble v0 v1 v2 v3) = false →
    exec (.init off addr data) s = .next (s.completedInit (.init off addr data)
      (evWidth s.cfg v ++ evBase s.cfg lo hi ++
        evProbe s.cfg (baseCanon s.cfg (combine64 lo hi)) v0 v1 v2 v3 ++
        [.diag (diagWord .preambleMismatch .ePreambleMismatch
          (baseCanon s.cfg (combine64 lo hi)) 0#32)])
      (apTarget s.cfg (baseCanon s.cfg (combine64 lo hi)) (laneOff s.cfg 3)) rest
      ⟨false, 4#4, 0#4, (widthOf s.cfg v).setWidth 7, 0#64, 0#32⟩ ((widthOf s.cfg v).setWidth 7))

/-! ### All operations, under every behaviour of the transport -/

/-- 60_exceptions.md R215: the first failing transaction is the last one, whether it is answered in
the step that accepts the command or in a later one, and the response says so. -/
def Obligations.TransportFailureEndsTheOperation : Prop :=
  ∀ (i : Instr) (s t : State) (es : List Event), exec i s = .next t ∨ s.resume = some t →
    t.log = s.log ++ es → es.any Event.failed = true →
    t.Ended ∧ t.rsp = ⟨false, 1#4, 0#4, t.addrWidth, 0#64, 0#32⟩ ∧
    ∃ fs r l, fs.any Event.failed = false ∧
      es = fs ++ .xfer r (.err l) :: (if s.hostReady then [.response t.rsp.word] else [])

/-- 10_state.md R23 to R25, 60_exceptions.md R225: only INIT writes a session register; no operation
changes the configuration, what the host presents next, or `rsp_ready`; neither in the step that
accepts the command nor in one that goes on with it. -/
def Obligations.OnlyInitWritesSessionRegisters : Prop :=
  ∀ (i : Instr) (s t : State), i.command.op ≠ 3#4 →
    exec i s = .next t ∨ s.latched = .ok i ∧ s.resume = some t →
    t.addrWidth = s.addrWidth ∧ t.widthValid = s.widthValid ∧ t.v6Bound = s.v6Bound ∧
    t.cfg = s.cfg ∧ t.inputs = s.inputs ∧ t.hostReady = s.hostReady

/-- 10_state.md R23, R24, 42_dp_init.md R152, R153: INIT leaves the width as it was or records a
supported one; it changes neither the configuration nor the inputs; in every step it takes. -/
def Obligations.InitRecordsOnlySupportedWidths : Prop :=
  ∀ (s t : State) (off : Offset) (addr : Addr) (data : Word),
    exec (.init off addr data) s = .next t ∨
      s.latched = .ok (.init off addr data) ∧ s.resume = some t →
    (t.addrWidth = s.addrWidth ∧ t.widthValid = s.widthValid ∨
      t.widthValid = true ∧ 32 ≤ t.addrWidth.toNat ∧ t.addrWidth.toNat ≤ 64) ∧
    t.cfg = s.cfg ∧ t.inputs = s.inputs ∧ t.hostReady = s.hostReady

/-- 42_dp_init.md R150, R158, 44_component_probe.md R198: neither INIT nor PROBE ever succeeds,
whichever step ends it. -/
def Obligations.InitAndProbeNeverSucceed : Prop :=
  ∀ (i : Instr) (s t : State), i.command.op = 3#4 ∨ i.command.op = 6#4 → s.Runs i t →
    t.Ended → t.rsp.ok = false

/-- 30_encoding.md R85, R86, 60_exceptions.md R211, R214: `WIDTH` is `ADDR_WIDTH`, `REASON` is 0
exactly on success and never reserved, and only code 5 carries results on a failure; whichever step
ends the operation. -/
def Obligations.ResponseFieldsAreConsistent : Prop :=
  ∀ (i : Instr) (s t : State), s.Runs i t → t.Ended →
    t.rsp.width = t.addrWidth ∧ (t.rsp.ok = true ↔ t.rsp.reason = 0#4) ∧
    t.rsp.reason.toNat ≤ 7 ∧
    (t.rsp.ok = false → t.rsp.reason ≠ 5#4 →
      t.rsp.cls = 0#4 ∧ t.rsp.raddr = 0#64 ∧ t.rsp.rdata = 0#32)

/-- 60_exceptions.md R224: SELB, RDBASE, APRD and APWR emit no diagnostic, in any step they take. -/
def Obligations.OnlyInitAndProbeEmitDiagnostics : Prop :=
  ∀ (i : Instr) (s t : State), i.command.op ≠ 3#4 → i.command.op ≠ 6#4 →
    exec i s = .next t ∨ s.latched = .ok i ∧ s.resume = some t →
    (t.log.drop s.log.length).any Event.isDiag = false

/-- 42_dp_init.md R162: every operation issues at most 22 transactions. The step that accepts the
command issues at most 22; a step that goes on with it issues at most what is left of the 22 after
the ones answered; and the position is their number throughout. -/
def Obligations.AtMostTwentyTwoTransactions : Prop :=
  (∀ (i : Instr) (s t : State), exec i s = .next t →
    (trace (t.log.drop s.log.length)).length ≤ 22 ∧
    (s.busy = false → ∀ vs, t.seq = .running vs →
      vs.length = (trace (t.log.drop s.log.length)).length)) ∧
  ∀ (s t : State) (vs : List Word), s.seq = .running vs → s.resume = some t →
    vs.length + (trace (t.log.drop s.log.length)).length ≤ 22 ∧
    ∀ vs', t.seq = .running vs' →
      vs'.length = vs.length + (trace (t.log.drop s.log.length)).length

/-- 43_ap_access.md R174: the trace is a function of the operands and of the transport's answers, and
of nothing the machine did before. Stated for every operation, not for APRD and APWR alone. -/
def Obligations.TraceDependsOnOperandsAlone : Prop :=
  ∀ (i : Instr) (s₁ s₂ t₁ t₂ : State) (as : List Answer), s₁.cfg = s₂.cfg →
    s₁.busy = false → s₂.busy = false → s₁.transport = .live as → s₂.transport = .live as →
    22 ≤ as.length → exec i s₁ = .next t₁ → exec i s₂ = .next t₂ →
    trace (t₁.log.drop s₁.log.length) = trace (t₂.log.drop s₂.log.length)

/-- 20_memory.md R52, 70_reset_and_hazards.md R253: an operation whose transport answered late ends
as if it had answered at once. The late request is the one after the answers `as`; the late answer
is the model's `silent` (log 5), the request taken or not (log 20). -/
def Obligations.LatencyIsInvisible : Prop :=
  ∀ (i : Instr) (s t u : State) (as bs : List Answer) (b : Answer) (taken : Bool),
    s.busy = false →
    (∀ a ∈ as, ∃ v, a = .ok v) → (∀ k, b ≠ .silent k) →
    s.transport = .live (as ++ .silent taken :: b :: bs) → exec i s = .next u → ¬ u.Ended →
    exec i { s with transport := .live (as ++ b :: bs) } = .next t → u.resume = some t

/-- 20_memory.md R52, 60_exceptions.md R227, 30_encoding.md R91: while the transport does not answer,
BUSY stays 1, the request stays outstanding, and there is no response; the request is presented until
the transport takes it, and not again after that (log 20). -/
def Obligations.SilentTransportKeepsBusy : Prop :=
  (∀ (i : Instr) (s : State) (taken : Bool) (as : List Answer), s.busy = false →
    s.transport = .live (.silent taken :: as) → ∃ t, exec i s = .next t ∧ t.busy = true ∧
      t.outstanding.isSome = true ∧ t.xReqValid = !taken ∧ t.rsp = s.rsp ∧
      t.log = s.log ++ [.accept (encode i)]) ∧
  ∀ (u : State) (taken : Bool) (as : List Answer), u.outstanding.isSome = true →
    u.transport = .live (.silent taken :: as) →
    ∃ v, u.resume = some v ∧ v.busy = u.busy ∧ v.seq = u.seq ∧ v.outstanding = u.outstanding ∧
      v.xReqValid = (u.xReqValid && !taken) ∧ v.rsp = u.rsp ∧ v.log = u.log

/-! ### The reference target (20_memory.md R67) -/

/-- R67 with the scripts of SELB, RDBASE, INIT, APRD and PROBE: none stores into a register of the
target other than SELECT and SELECT1, whether its transactions succeed or fail. -/
def Obligations.NonStoringOperationsLeaveTargetRegisters : Prop :=
  ∀ (i : Instr) (s t : State) (r : RefTarget), i.command.op ≠ 5#4 →
    s.transport = .reference r → exec i s = .next t →
    ∃ r', t.transport = .reference r' ∧ (∀ k, r'.regs.get k = r.regs.get k) ∧
      r'.wlog = r.wlog ∧ r'.failAt = r.failAt

/-- R67 with the script of APWR: whatever fails, no register but the one its key names changes, and
the log of writes grows by that write or not at all. -/
def Obligations.ApwrLeavesEveryOtherTargetRegister : Prop :=
  ∀ (s t : State) (r : RefTarget) (off : Offset) (addr : Addr) (data select1 : Word),
    s.transport = .reference r → exec (.apwr off addr data) s = .next t →
    select1 = (if s.cfg.xaddrSelect1 = s.cfg.xaddrSelect then s.target.select1 else hi32 addr) →
    ∃ r', t.transport = .reference r' ∧ r'.failAt = r.failAt ∧
      (r'.wlog = r.wlog ∨
        r'.wlog = r.wlog ++ [⟨select1, selVal s.cfg (lo32 addr) off, xaddrOf off, data⟩]) ∧
      ∀ k, k ≠ regKey select1 (selVal s.cfg (lo32 addr) off) (xaddrOf off) →
        r'.regs.get k = r.regs.get k

/-- R67 with 43_ap_access.md R171, R172: an APRD after an APWR of the same register answers the value
written, the two selects being at addresses of their own and the access at neither. -/
def Obligations.ReadBackOnTheReferenceTarget : Prop :=
  ∀ (s t u : State) (r : RefTarget) (off : Offset) (addr : Addr) (data d' : Word),
    s.busy = false → s.hostReady = true →
    s.transport = .reference r → r.regs.wf = true → r.failAt = [] →
    s.cfg.xaddrSelect1 ≠ s.cfg.xaddrSelect → xaddrOf off ≠ s.cfg.xaddrSelect →
    xaddrOf off ≠ s.cfg.xaddrSelect1 →
    exec (.apwr off addr data) s = .next t → exec (.aprd off addr d') t = .next u →
    t.rsp.ok = true ∧ u.rsp = ⟨true, 0#4, 0#4, s.addrWidth, 0#64, data⟩

/-! ### Steps of the machine -/

/-- 10_state.md R34 and the rest of `State.Inv`, kept by every step. -/
def Obligations.StepKeepsTheInvariant : Prop :=
  ∀ s t : State, s.Inv → step s = .next t → t.Inv

/-- `State.Inv` at reset. -/
def Obligations.ResetMeetsTheInvariant : Prop := State.reset.Inv

/-- Under the invariant a step neither faults nor refuses (60_exceptions.md R214: failures are
responses). The fault and the refusal it rules out are the model's own (logs 3 and 17). -/
def Obligations.NoStepStopsUnderTheInvariant : Prop :=
  ∀ s : State, s.Inv → ∃ t, step s = .next t

/-- 30_encoding.md R91: commands accepted, responses taken, operations abandoned and the one in flight
add up, at every step from every state in which they do. -/
def Obligations.EveryCommandHasOneResponse : Prop :=
  State.reset.Accounted ∧ ∀ s t : State, s.Accounted → step s = .next t → t.Accounted

/-- 10_state.md R24, R25: WIDTH_VALID and V6_BOUND fall at a reset only. -/
def Obligations.SessionFlagsFallOnlyAtReset : Prop :=
  ∀ s t : State, step s = .next t → (∀ landed rest, s.inputs ≠ .rst landed :: rest) →
    (s.v6Bound = true → t.v6Bound = true) ∧ (s.widthValid = true → t.widthValid = true)

/-- 10_state.md R21, R22: the command latches hold during an operation; the response latches are not
written before it ends. -/
def Obligations.LatchesHoldDuringAnOperation : Prop :=
  ∀ s t : State, s.busy = true → step s = .next t → (∀ landed rest, s.inputs ≠ .rst landed :: rest) →
    t.cmd = s.cmd ∧ (¬ t.Ended → t.rsp = s.rsp)

/-- 10_state.md R31, 00_scope.md R18: the configuration is fixed and the record of events only
grows (the record is the model's own field `log`, log 4). -/
def Obligations.StepKeepsConfigurationAndHistory : Prop :=
  ∀ s t : State, step s = .next t → t.cfg = s.cfg ∧ s.log <+: t.log

/-- 30_encoding.md R91, 60_exceptions.md R224: a step presents on the diagnostic port exactly the
events emitted in it, in order; none is presented again in a later step, waiting or not (log 14). -/
def Obligations.DiagnosticsArePresentedOnce : Prop :=
  ∀ s t : State, step s = .next t → t.diagOut = diags (t.log.drop s.log.length)

/-- 30_encoding.md R91, 70_reset_and_hazards.md R254: a presented response waits until the host takes
it; then BUSY falls. -/
def Obligations.ResponseWaitsForTheHost : Prop :=
  (∀ (i : Instr) (s t : State), s.busy = false → s.hostReady = false → exec i s = .next t →
    t.Ended → t.rspValid = true ∧ t.busy = true) ∧
  ∀ (s : State) (rest : List Input), s.cfg.wf = true → s.busy = true → s.seq = .responding →
    s.inputs = .quiet :: rest →
    step s = .next (if s.hostReady then
      { s with inputs := rest, busy := false, seq := .idle, diagOut := [],
               log := s.log ++ [.response s.rsp.word] }
    else { s with inputs := rest, diagOut := [] })

/-! ### Reset -/

/-- 70_reset_and_hazards.md R240: what `rst` leaves, from every state, in mid-operation too. -/
def Obligations.ResetTakesTheResetState : Prop :=
  ∀ (s : State) (landed : Bool) (rest : List Input), s.cfg.wf = true →
    s.inputs = .rst landed :: rest → ∃ t, step s = .next t ∧
      t.cmd = ⟨0#4, false, 0#16, 0#64, 0#32⟩ ∧ t.rsp = ⟨false, 0#4, 0#4, 0#7, 0#64, 0#32⟩ ∧
      t.addrWidth = 0#7 ∧ t.widthValid = false ∧ t.v6Bound = false ∧ t.busy = false ∧
      t.seq = .idle ∧ t.cmdReady = true ∧ t.rspValid = false ∧ t.xReqValid = false ∧
      t.diagValid = false

/-- 70_reset_and_hazards.md R241, R242: reset issues no transaction and answers nothing; the target
side and the transport stay, but for a write that was outstanding and landed all the same
(log 13), which the model lets happen at the reset or never (log 21, a choice of the model's). -/
def Obligations.ResetLeavesTheTarget : Prop :=
  ∀ (s t : State) (landed : Bool) (rest : List Input), s.inputs = .rst landed :: rest →
    step s = .next t →
      t.log = s.log ++ [.reset s.busy landed] ∧ t.transport = s.transport ∧ t.inputs = rest ∧
      (t.target = s.target ∨ landed = true ∧ ∃ role r, s.outstanding = some (role, r) ∧
        t.target = s.target.land s.cfg s.log role r)

/-- 70_reset_and_hazards.md R240: the values of `State.reset` the spec gives. -/
def Obligations.ResetStateHasTheSpecifiedValues : Prop :=
  State.reset.cmd = ⟨0#4, false, 0#16, 0#64, 0#32⟩ ∧
  State.reset.rsp = ⟨false, 0#4, 0#4, 0#7, 0#64, 0#32⟩ ∧
  State.reset.addrWidth = 0#7 ∧ State.reset.widthValid = false ∧ State.reset.v6Bound = false ∧
  State.reset.busy = false ∧ State.reset.seq = .idle ∧ State.reset.cmdReady = true ∧
  State.reset.rspValid = false ∧ State.reset.xReqValid = false ∧ State.reset.diagValid = false
end

