-- ==== Sys2Proof/Laws/Decode.lean ====
section
/-! SUPPORT. Cutting a command word into fields and putting it together (30_encoding.md R80). -/

namespace Sys2Proof

/-- Bit `i` of a command word, field by field (30_encoding.md R80). -/
theorem Command.getLsbD_word (c : Command) (i : Nat) : c.word.getLsbD i =
    if i < 32 then c.data.getLsbD i else if i < 96 then c.addr.getLsbD (i - 32)
    else if i < 112 then c.off.getLsbD (i - 96) else if i < 123 then c.rsv.getLsbD (i - 112)
    else if i < 124 then c.hiv else c.op.getLsbD (i - 124) := by
  rw [show c.word.getLsbD i = BitVec.getLsbD (w := 4 + (1 + (11 + (16 + (64 + 32)))))
    (c.op ++ (BitVec.ofBool c.hiv ++ (c.rsv ++ (c.off ++ (c.addr ++ c.data))))) i from rfl]
  simp only [BitVec.getLsbD_append, ← Nat.sub_sub]
  have hb : ∀ j, j < 1 → (BitVec.ofBool c.hiv).getLsbD j = c.hiv := by
    intro j hj; obtain rfl : j = 0 := by omega
    simp
  grind

/-- Cutting a word made of fields gives the fields. -/
theorem Command.ofWord_word (c : Command) : Command.ofWord c.word = c := by
  have h := Command.getLsbD_word c
  obtain ⟨op, hiv, rsv, off, addr, data⟩ := c
  simp only [Command.ofWord, Command.mk.injEq]
  refine ⟨?_, ?_, ?_, ?_, ?_, ?_⟩
  rotate_left
  · rw [h]; rfl
  all_goals
    apply BitVec.eq_of_getLsbD_eq
    intro i hi
    rw [BitVec.getLsbD_extractLsb', h]
    grind

/-- A word is made of its fields. -/
theorem Command.word_ofWord (w : PortWord) : (Command.ofWord w).word = w := by
  apply BitVec.eq_of_getLsbD_eq
  intro i hi
  rw [Command.getLsbD_word]
  simp only [Command.ofWord, BitVec.getLsbD_extractLsb']
  grind

end Sys2Proof
end

