-- ==== Sys2Proof/Laws/State.lean ====
section
/-! SUPPORT. One lemma per field per update of the state, all true by unfolding the update once. -/

namespace Sys2Proof.Machine

/-! ### `State.take` -/

@[simp] theorem State.take_cfg (s : State) (w : PortWord) : (s.take w).cfg = s.cfg := rfl
@[simp] theorem State.take_cmd (s : State) (w : PortWord) : (s.take w).cmd = s.cmd := rfl
@[simp] theorem State.take_rsp (s : State) (w : PortWord) : (s.take w).rsp = s.rsp := rfl
@[simp] theorem State.take_addrWidth (s : State) (w : PortWord) :
    (s.take w).addrWidth = s.addrWidth := rfl
@[simp] theorem State.take_widthValid (s : State) (w : PortWord) :
    (s.take w).widthValid = s.widthValid := rfl
@[simp] theorem State.take_v6Bound (s : State) (w : PortWord) :
    (s.take w).v6Bound = s.v6Bound := rfl
@[simp] theorem State.take_busy (s : State) (w : PortWord) : (s.take w).busy = true := rfl
@[simp] theorem State.take_seq (s : State) (w : PortWord) : (s.take w).seq = s.seq := rfl
@[simp] theorem State.take_diagOut (s : State) (w : PortWord) :
    (s.take w).diagOut = s.diagOut := rfl
@[simp] theorem State.take_hostReady (s : State) (w : PortWord) :
    (s.take w).hostReady = s.hostReady := rfl
@[simp] theorem State.take_inputs (s : State) (w : PortWord) : (s.take w).inputs = s.inputs := rfl
@[simp] theorem State.take_target (s : State) (w : PortWord) : (s.take w).target = s.target := rfl
@[simp] theorem State.take_transport (s : State) (w : PortWord) :
    (s.take w).transport = s.transport := rfl
@[simp] theorem State.take_reqTaken (s : State) (w : PortWord) :
    (s.take w).reqTaken = s.reqTaken := rfl
@[simp] theorem State.take_waits (s : State) (w : PortWord) : (s.take w).waits = s.waits := rfl
@[simp] theorem State.take_log (s : State) (w : PortWord) :
    (s.take w).log = s.log ++ [.accept w] := rfl

/-! ### `State.accept` -/

@[simp] theorem State.accept_cfg (s : State) (w : PortWord) : (s.accept w).cfg = s.cfg := rfl
@[simp] theorem State.accept_cmd (s : State) (w : PortWord) :
    (s.accept w).cmd = ⟨(Command.ofWord w).op, (Command.ofWord w).hiv, (Command.ofWord w).off,
      (Command.ofWord w).addr, (Command.ofWord w).data⟩ := rfl
@[simp] theorem State.accept_rsp (s : State) (w : PortWord) : (s.accept w).rsp = s.rsp := rfl
@[simp] theorem State.accept_addrWidth (s : State) (w : PortWord) :
    (s.accept w).addrWidth = s.addrWidth := rfl
@[simp] theorem State.accept_widthValid (s : State) (w : PortWord) :
    (s.accept w).widthValid = s.widthValid := rfl
@[simp] theorem State.accept_v6Bound (s : State) (w : PortWord) :
    (s.accept w).v6Bound = s.v6Bound := rfl
@[simp] theorem State.accept_busy (s : State) (w : PortWord) : (s.accept w).busy = true := rfl
@[simp] theorem State.accept_seq (s : State) (w : PortWord) : (s.accept w).seq = .running [] := rfl
@[simp] theorem State.accept_diagOut (s : State) (w : PortWord) :
    (s.accept w).diagOut = s.diagOut := rfl
@[simp] theorem State.accept_hostReady (s : State) (w : PortWord) :
    (s.accept w).hostReady = s.hostReady := rfl
@[simp] theorem State.accept_inputs (s : State) (w : PortWord) :
    (s.accept w).inputs = s.inputs := rfl
@[simp] theorem State.accept_target (s : State) (w : PortWord) :
    (s.accept w).target = s.target := rfl
@[simp] theorem State.accept_transport (s : State) (w : PortWord) :
    (s.accept w).transport = s.transport := rfl
@[simp] theorem State.accept_reqTaken (s : State) (w : PortWord) :
    (s.accept w).reqTaken = false := rfl
@[simp] theorem State.accept_waits (s : State) (w : PortWord) : (s.accept w).waits = 0 := rfl
@[simp] theorem State.accept_log (s : State) (w : PortWord) :
    (s.accept w).log = s.log ++ [.accept w] := rfl

/-! ### `State.emit` -/

@[simp] theorem State.emit_cfg (s : State) (w : PortWord) : (s.emit w).cfg = s.cfg := rfl
@[simp] theorem State.emit_cmd (s : State) (w : PortWord) : (s.emit w).cmd = s.cmd := rfl
@[simp] theorem State.emit_rsp (s : State) (w : PortWord) : (s.emit w).rsp = s.rsp := rfl
@[simp] theorem State.emit_addrWidth (s : State) (w : PortWord) :
    (s.emit w).addrWidth = s.addrWidth := rfl
@[simp] theorem State.emit_widthValid (s : State) (w : PortWord) :
    (s.emit w).widthValid = s.widthValid := rfl
@[simp] theorem State.emit_v6Bound (s : State) (w : PortWord) :
    (s.emit w).v6Bound = s.v6Bound := rfl
@[simp] theorem State.emit_busy (s : State) (w : PortWord) : (s.emit w).busy = s.busy := rfl
@[simp] theorem State.emit_seq (s : State) (w : PortWord) : (s.emit w).seq = s.seq := rfl
@[simp] theorem State.emit_diagOut (s : State) (w : PortWord) :
    (s.emit w).diagOut = s.diagOut ++ [w] := rfl
@[simp] theorem State.emit_hostReady (s : State) (w : PortWord) :
    (s.emit w).hostReady = s.hostReady := rfl
@[simp] theorem State.emit_inputs (s : State) (w : PortWord) : (s.emit w).inputs = s.inputs := rfl
@[simp] theorem State.emit_target (s : State) (w : PortWord) : (s.emit w).target = s.target := rfl
@[simp] theorem State.emit_transport (s : State) (w : PortWord) :
    (s.emit w).transport = s.transport := rfl
@[simp] theorem State.emit_reqTaken (s : State) (w : PortWord) :
    (s.emit w).reqTaken = s.reqTaken := rfl
@[simp] theorem State.emit_waits (s : State) (w : PortWord) : (s.emit w).waits = s.waits := rfl
@[simp] theorem State.emit_log (s : State) (w : PortWord) :
    (s.emit w).log = s.log ++ [.diag w] := rfl

/-! ### `State.beginStep` -/

@[simp] theorem State.beginStep_cfg (s : State) : (s.beginStep).cfg = s.cfg := rfl
@[simp] theorem State.beginStep_cmd (s : State) : (s.beginStep).cmd = s.cmd := rfl
@[simp] theorem State.beginStep_rsp (s : State) : (s.beginStep).rsp = s.rsp := rfl
@[simp] theorem State.beginStep_addrWidth (s : State) : (s.beginStep).addrWidth = s.addrWidth := rfl
@[simp] theorem State.beginStep_widthValid (s : State) :
    (s.beginStep).widthValid = s.widthValid := rfl
@[simp] theorem State.beginStep_v6Bound (s : State) : (s.beginStep).v6Bound = s.v6Bound := rfl
@[simp] theorem State.beginStep_busy (s : State) : (s.beginStep).busy = s.busy := rfl
@[simp] theorem State.beginStep_seq (s : State) : (s.beginStep).seq = s.seq := rfl
@[simp] theorem State.beginStep_diagOut (s : State) : (s.beginStep).diagOut = [] := rfl
@[simp] theorem State.beginStep_hostReady (s : State) : (s.beginStep).hostReady = s.hostReady := rfl
@[simp] theorem State.beginStep_inputs (s : State) : (s.beginStep).inputs = s.inputs := rfl
@[simp] theorem State.beginStep_target (s : State) : (s.beginStep).target = s.target := rfl
@[simp] theorem State.beginStep_transport (s : State) : (s.beginStep).transport = s.transport := rfl
@[simp] theorem State.beginStep_reqTaken (s : State) : (s.beginStep).reqTaken = s.reqTaken := rfl
@[simp] theorem State.beginStep_waits (s : State) : (s.beginStep).waits = s.waits := rfl
@[simp] theorem State.beginStep_log (s : State) : (s.beginStep).log = s.log := rfl

/-! ### `State.bindV6` -/

@[simp] theorem State.bindV6_cfg (s : State) : (s.bindV6).cfg = s.cfg := rfl
@[simp] theorem State.bindV6_cmd (s : State) : (s.bindV6).cmd = s.cmd := rfl
@[simp] theorem State.bindV6_rsp (s : State) : (s.bindV6).rsp = s.rsp := rfl
@[simp] theorem State.bindV6_addrWidth (s : State) : (s.bindV6).addrWidth = s.addrWidth := rfl
@[simp] theorem State.bindV6_widthValid (s : State) : (s.bindV6).widthValid = s.widthValid := rfl
@[simp] theorem State.bindV6_v6Bound (s : State) : (s.bindV6).v6Bound = true := rfl
@[simp] theorem State.bindV6_busy (s : State) : (s.bindV6).busy = s.busy := rfl
@[simp] theorem State.bindV6_seq (s : State) : (s.bindV6).seq = s.seq := rfl
@[simp] theorem State.bindV6_diagOut (s : State) : (s.bindV6).diagOut = s.diagOut := rfl
@[simp] theorem State.bindV6_hostReady (s : State) : (s.bindV6).hostReady = s.hostReady := rfl
@[simp] theorem State.bindV6_inputs (s : State) : (s.bindV6).inputs = s.inputs := rfl
@[simp] theorem State.bindV6_target (s : State) : (s.bindV6).target = s.target := rfl
@[simp] theorem State.bindV6_transport (s : State) : (s.bindV6).transport = s.transport := rfl
@[simp] theorem State.bindV6_reqTaken (s : State) : (s.bindV6).reqTaken = s.reqTaken := rfl
@[simp] theorem State.bindV6_waits (s : State) : (s.bindV6).waits = s.waits := rfl
@[simp] theorem State.bindV6_log (s : State) : (s.bindV6).log = s.log := rfl

/-! ### `State.recordWidth` -/

@[simp] theorem State.recordWidth_cfg (s : State) (w : BitVec 7) :
    (s.recordWidth w).cfg = s.cfg := rfl
@[simp] theorem State.recordWidth_cmd (s : State) (w : BitVec 7) :
    (s.recordWidth w).cmd = s.cmd := rfl
@[simp] theorem State.recordWidth_rsp (s : State) (w : BitVec 7) :
    (s.recordWidth w).rsp = s.rsp := rfl
@[simp] theorem State.recordWidth_addrWidth (s : State) (w : BitVec 7) :
    (s.recordWidth w).addrWidth = w := rfl
@[simp] theorem State.recordWidth_widthValid (s : State) (w : BitVec 7) :
    (s.recordWidth w).widthValid = true := rfl
@[simp] theorem State.recordWidth_v6Bound (s : State) (w : BitVec 7) :
    (s.recordWidth w).v6Bound = s.v6Bound := rfl
@[simp] theorem State.recordWidth_busy (s : State) (w : BitVec 7) :
    (s.recordWidth w).busy = s.busy := rfl
@[simp] theorem State.recordWidth_seq (s : State) (w : BitVec 7) :
    (s.recordWidth w).seq = s.seq := rfl
@[simp] theorem State.recordWidth_diagOut (s : State) (w : BitVec 7) :
    (s.recordWidth w).diagOut = s.diagOut := rfl
@[simp] theorem State.recordWidth_hostReady (s : State) (w : BitVec 7) :
    (s.recordWidth w).hostReady = s.hostReady := rfl
@[simp] theorem State.recordWidth_inputs (s : State) (w : BitVec 7) :
    (s.recordWidth w).inputs = s.inputs := rfl
@[simp] theorem State.recordWidth_target (s : State) (w : BitVec 7) :
    (s.recordWidth w).target = s.target := rfl
@[simp] theorem State.recordWidth_transport (s : State) (w : BitVec 7) :
    (s.recordWidth w).transport = s.transport := rfl
@[simp] theorem State.recordWidth_reqTaken (s : State) (w : BitVec 7) :
    (s.recordWidth w).reqTaken = s.reqTaken := rfl
@[simp] theorem State.recordWidth_waits (s : State) (w : BitVec 7) :
    (s.recordWidth w).waits = s.waits := rfl
@[simp] theorem State.recordWidth_log (s : State) (w : BitVec 7) :
    (s.recordWidth w).log = s.log := rfl

/-! ### `State.hardReset` -/

@[simp] theorem State.hardReset_cfg (s : State) (tgt : Target) (landed : Bool) :
    (s.hardReset tgt landed).cfg = s.cfg := rfl
@[simp] theorem State.hardReset_cmd (s : State) (tgt : Target) (landed : Bool) :
    (s.hardReset tgt landed).cmd = CommandLatches.reset := rfl
@[simp] theorem State.hardReset_rsp (s : State) (tgt : Target) (landed : Bool) :
    (s.hardReset tgt landed).rsp = Response.reset := rfl
@[simp] theorem State.hardReset_addrWidth (s : State) (tgt : Target) (landed : Bool) :
    (s.hardReset tgt landed).addrWidth = 0#7 := rfl
@[simp] theorem State.hardReset_widthValid (s : State) (tgt : Target) (landed : Bool) :
    (s.hardReset tgt landed).widthValid = false := rfl
@[simp] theorem State.hardReset_v6Bound (s : State) (tgt : Target) (landed : Bool) :
    (s.hardReset tgt landed).v6Bound = false := rfl
@[simp] theorem State.hardReset_busy (s : State) (tgt : Target) (landed : Bool) :
    (s.hardReset tgt landed).busy = false := rfl
@[simp] theorem State.hardReset_seq (s : State) (tgt : Target) (landed : Bool) :
    (s.hardReset tgt landed).seq = .idle := rfl
@[simp] theorem State.hardReset_diagOut (s : State) (tgt : Target) (landed : Bool) :
    (s.hardReset tgt landed).diagOut = [] := rfl
@[simp] theorem State.hardReset_hostReady (s : State) (tgt : Target) (landed : Bool) :
    (s.hardReset tgt landed).hostReady = s.hostReady := rfl
@[simp] theorem State.hardReset_inputs (s : State) (tgt : Target) (landed : Bool) :
    (s.hardReset tgt landed).inputs = s.inputs := rfl
@[simp] theorem State.hardReset_target (s : State) (tgt : Target) (landed : Bool) :
    (s.hardReset tgt landed).target = tgt := rfl
@[simp] theorem State.hardReset_transport (s : State) (tgt : Target) (landed : Bool) :
    (s.hardReset tgt landed).transport = s.transport := rfl
@[simp] theorem State.hardReset_reqTaken (s : State) (tgt : Target) (landed : Bool) :
    (s.hardReset tgt landed).reqTaken = false := rfl
@[simp] theorem State.hardReset_waits (s : State) (tgt : Target) (landed : Bool) :
    (s.hardReset tgt landed).waits = 0 := rfl
@[simp] theorem State.hardReset_log (s : State) (tgt : Target) (landed : Bool) :
    (s.hardReset tgt landed).log = s.log ++ [.reset s.busy landed] := rfl

/-! ### `State.setReady` -/

@[simp] theorem State.setReady_cfg (s : State) (b : Bool) : (s.setReady b).cfg = s.cfg := rfl
@[simp] theorem State.setReady_cmd (s : State) (b : Bool) : (s.setReady b).cmd = s.cmd := rfl
@[simp] theorem State.setReady_rsp (s : State) (b : Bool) : (s.setReady b).rsp = s.rsp := rfl
@[simp] theorem State.setReady_addrWidth (s : State) (b : Bool) :
    (s.setReady b).addrWidth = s.addrWidth := rfl
@[simp] theorem State.setReady_widthValid (s : State) (b : Bool) :
    (s.setReady b).widthValid = s.widthValid := rfl
@[simp] theorem State.setReady_v6Bound (s : State) (b : Bool) :
    (s.setReady b).v6Bound = s.v6Bound := rfl
@[simp] theorem State.setReady_busy (s : State) (b : Bool) : (s.setReady b).busy = s.busy := rfl
@[simp] theorem State.setReady_seq (s : State) (b : Bool) : (s.setReady b).seq = s.seq := rfl
@[simp] theorem State.setReady_diagOut (s : State) (b : Bool) :
    (s.setReady b).diagOut = s.diagOut := rfl
@[simp] theorem State.setReady_hostReady (s : State) (b : Bool) :
    (s.setReady b).hostReady = b := rfl
@[simp] theorem State.setReady_inputs (s : State) (b : Bool) :
    (s.setReady b).inputs = s.inputs := rfl
@[simp] theorem State.setReady_target (s : State) (b : Bool) :
    (s.setReady b).target = s.target := rfl
@[simp] theorem State.setReady_transport (s : State) (b : Bool) :
    (s.setReady b).transport = s.transport := rfl
@[simp] theorem State.setReady_reqTaken (s : State) (b : Bool) :
    (s.setReady b).reqTaken = s.reqTaken := rfl
@[simp] theorem State.setReady_waits (s : State) (b : Bool) : (s.setReady b).waits = s.waits := rfl
@[simp] theorem State.setReady_log (s : State) (b : Bool) : (s.setReady b).log = s.log := rfl

/-! ### `State.interfere` -/

@[simp] theorem State.interfere_cfg (s : State) (a b : Word) : (s.interfere a b).cfg = s.cfg := rfl
@[simp] theorem State.interfere_cmd (s : State) (a b : Word) : (s.interfere a b).cmd = s.cmd := rfl
@[simp] theorem State.interfere_rsp (s : State) (a b : Word) : (s.interfere a b).rsp = s.rsp := rfl
@[simp] theorem State.interfere_addrWidth (s : State) (a b : Word) :
    (s.interfere a b).addrWidth = s.addrWidth := rfl
@[simp] theorem State.interfere_widthValid (s : State) (a b : Word) :
    (s.interfere a b).widthValid = s.widthValid := rfl
@[simp] theorem State.interfere_v6Bound (s : State) (a b : Word) :
    (s.interfere a b).v6Bound = s.v6Bound := rfl
@[simp] theorem State.interfere_busy (s : State) (a b : Word) :
    (s.interfere a b).busy = s.busy := rfl
@[simp] theorem State.interfere_seq (s : State) (a b : Word) : (s.interfere a b).seq = s.seq := rfl
@[simp] theorem State.interfere_diagOut (s : State) (a b : Word) :
    (s.interfere a b).diagOut = s.diagOut := rfl
@[simp] theorem State.interfere_hostReady (s : State) (a b : Word) :
    (s.interfere a b).hostReady = s.hostReady := rfl
@[simp] theorem State.interfere_inputs (s : State) (a b : Word) :
    (s.interfere a b).inputs = s.inputs := rfl
@[simp] theorem State.interfere_target (s : State) (a b : Word) :
    (s.interfere a b).target = ⟨a, b⟩ := rfl
@[simp] theorem State.interfere_transport (s : State) (a b : Word) :
    (s.interfere a b).transport = s.transport := rfl
@[simp] theorem State.interfere_reqTaken (s : State) (a b : Word) :
    (s.interfere a b).reqTaken = s.reqTaken := rfl
@[simp] theorem State.interfere_waits (s : State) (a b : Word) :
    (s.interfere a b).waits = s.waits := rfl
@[simp] theorem State.interfere_log (s : State) (a b : Word) :
    (s.interfere a b).log = s.log ++ [.otherUsers a b] := rfl

/-! ### `State.targetChange` -/

@[simp] theorem State.targetChange_cfg (s : State) (a b : Word) (x : XAddr) (v : Word) :
    (s.targetChange a b x v).cfg = s.cfg := rfl
@[simp] theorem State.targetChange_cmd (s : State) (a b : Word) (x : XAddr) (v : Word) :
    (s.targetChange a b x v).cmd = s.cmd := rfl
@[simp] theorem State.targetChange_rsp (s : State) (a b : Word) (x : XAddr) (v : Word) :
    (s.targetChange a b x v).rsp = s.rsp := rfl
@[simp] theorem State.targetChange_addrWidth (s : State) (a b : Word) (x : XAddr) (v : Word) :
    (s.targetChange a b x v).addrWidth = s.addrWidth := rfl
@[simp] theorem State.targetChange_widthValid (s : State) (a b : Word) (x : XAddr) (v : Word) :
    (s.targetChange a b x v).widthValid = s.widthValid := rfl
@[simp] theorem State.targetChange_v6Bound (s : State) (a b : Word) (x : XAddr) (v : Word) :
    (s.targetChange a b x v).v6Bound = s.v6Bound := rfl
@[simp] theorem State.targetChange_busy (s : State) (a b : Word) (x : XAddr) (v : Word) :
    (s.targetChange a b x v).busy = s.busy := rfl
@[simp] theorem State.targetChange_seq (s : State) (a b : Word) (x : XAddr) (v : Word) :
    (s.targetChange a b x v).seq = s.seq := rfl
@[simp] theorem State.targetChange_diagOut (s : State) (a b : Word) (x : XAddr) (v : Word) :
    (s.targetChange a b x v).diagOut = s.diagOut := rfl
@[simp] theorem State.targetChange_hostReady (s : State) (a b : Word) (x : XAddr) (v : Word) :
    (s.targetChange a b x v).hostReady = s.hostReady := rfl
@[simp] theorem State.targetChange_inputs (s : State) (a b : Word) (x : XAddr) (v : Word) :
    (s.targetChange a b x v).inputs = s.inputs := rfl
@[simp] theorem State.targetChange_target (s : State) (a b : Word) (x : XAddr) (v : Word) :
    (s.targetChange a b x v).target = s.target := rfl
@[simp] theorem State.targetChange_reqTaken (s : State) (a b : Word) (x : XAddr) (v : Word) :
    (s.targetChange a b x v).reqTaken = s.reqTaken := rfl
@[simp] theorem State.targetChange_waits (s : State) (a b : Word) (x : XAddr) (v : Word) :
    (s.targetChange a b x v).waits = s.waits := rfl
@[simp] theorem State.targetChange_log (s : State) (a b : Word) (x : XAddr) (v : Word) :
    (s.targetChange a b x v).log = s.log ++ [.targetChange a b x v] := rfl

/-! ### `State.advance` -/

@[simp] theorem State.advance_cfg (s : State) (v : Word) : (s.advance v).cfg = s.cfg := rfl
@[simp] theorem State.advance_cmd (s : State) (v : Word) : (s.advance v).cmd = s.cmd := rfl
@[simp] theorem State.advance_rsp (s : State) (v : Word) : (s.advance v).rsp = s.rsp := rfl
@[simp] theorem State.advance_addrWidth (s : State) (v : Word) :
    (s.advance v).addrWidth = s.addrWidth := rfl
@[simp] theorem State.advance_widthValid (s : State) (v : Word) :
    (s.advance v).widthValid = s.widthValid := rfl
@[simp] theorem State.advance_v6Bound (s : State) (v : Word) :
    (s.advance v).v6Bound = s.v6Bound := rfl
@[simp] theorem State.advance_busy (s : State) (v : Word) : (s.advance v).busy = s.busy := rfl
@[simp] theorem State.advance_diagOut (s : State) (v : Word) :
    (s.advance v).diagOut = s.diagOut := rfl
@[simp] theorem State.advance_hostReady (s : State) (v : Word) :
    (s.advance v).hostReady = s.hostReady := rfl
@[simp] theorem State.advance_inputs (s : State) (v : Word) : (s.advance v).inputs = s.inputs := rfl
@[simp] theorem State.advance_target (s : State) (v : Word) : (s.advance v).target = s.target := rfl
@[simp] theorem State.advance_transport (s : State) (v : Word) :
    (s.advance v).transport = s.transport := rfl
@[simp] theorem State.advance_reqTaken (s : State) (v : Word) :
    (s.advance v).reqTaken = s.reqTaken := rfl
@[simp] theorem State.advance_waits (s : State) (v : Word) : (s.advance v).waits = s.waits := rfl
@[simp] theorem State.advance_log (s : State) (v : Word) : (s.advance v).log = s.log := rfl

/-! ### `State.wait` -/

@[simp] theorem State.wait_cfg (s : State) (taken : Bool) : (s.wait taken).cfg = s.cfg := rfl
@[simp] theorem State.wait_cmd (s : State) (taken : Bool) : (s.wait taken).cmd = s.cmd := rfl
@[simp] theorem State.wait_rsp (s : State) (taken : Bool) : (s.wait taken).rsp = s.rsp := rfl
@[simp] theorem State.wait_addrWidth (s : State) (taken : Bool) :
    (s.wait taken).addrWidth = s.addrWidth := rfl
@[simp] theorem State.wait_widthValid (s : State) (taken : Bool) :
    (s.wait taken).widthValid = s.widthValid := rfl
@[simp] theorem State.wait_v6Bound (s : State) (taken : Bool) :
    (s.wait taken).v6Bound = s.v6Bound := rfl
@[simp] theorem State.wait_busy (s : State) (taken : Bool) : (s.wait taken).busy = s.busy := rfl
@[simp] theorem State.wait_seq (s : State) (taken : Bool) : (s.wait taken).seq = s.seq := rfl
@[simp] theorem State.wait_diagOut (s : State) (taken : Bool) :
    (s.wait taken).diagOut = s.diagOut := rfl
@[simp] theorem State.wait_hostReady (s : State) (taken : Bool) :
    (s.wait taken).hostReady = s.hostReady := rfl
@[simp] theorem State.wait_inputs (s : State) (taken : Bool) :
    (s.wait taken).inputs = s.inputs := rfl
@[simp] theorem State.wait_target (s : State) (taken : Bool) :
    (s.wait taken).target = s.target := rfl
@[simp] theorem State.wait_reqTaken (s : State) (taken : Bool) :
    (s.wait taken).reqTaken = (s.reqTaken || taken) := rfl
@[simp] theorem State.wait_waits (s : State) (taken : Bool) :
    (s.wait taken).waits = s.waits + 1 := rfl
@[simp] theorem State.wait_log (s : State) (taken : Bool) : (s.wait taken).log = s.log := rfl

/-! ### `State.offer` and what ends an operation -/

@[simp] theorem State.offer_cfg (s : State) : s.offer.cfg = s.cfg := by
  unfold State.offer; split <;> rfl
@[simp] theorem State.offer_cmd (s : State) : s.offer.cmd = s.cmd := by
  unfold State.offer; split <;> rfl
@[simp] theorem State.offer_rsp (s : State) : s.offer.rsp = s.rsp := by
  unfold State.offer; split <;> rfl
@[simp] theorem State.offer_addrWidth (s : State) : s.offer.addrWidth = s.addrWidth := by
  unfold State.offer; split <;> rfl
@[simp] theorem State.offer_widthValid (s : State) : s.offer.widthValid = s.widthValid := by
  unfold State.offer; split <;> rfl
@[simp] theorem State.offer_v6Bound (s : State) : s.offer.v6Bound = s.v6Bound := by
  unfold State.offer; split <;> rfl
@[simp] theorem State.offer_busy (s : State) : s.offer.busy = (s.busy && !s.hostReady) := by
  unfold State.offer; cases s.hostReady <;> simp
@[simp] theorem State.offer_seq (s : State) : s.offer.seq = (if s.hostReady then .idle else s.seq) := by
  unfold State.offer; split <;> rfl
@[simp] theorem State.offer_diagOut (s : State) : s.offer.diagOut = s.diagOut := by
  unfold State.offer; split <;> rfl
@[simp] theorem State.offer_hostReady (s : State) : s.offer.hostReady = s.hostReady := by
  unfold State.offer; split <;> rfl
@[simp] theorem State.offer_inputs (s : State) : s.offer.inputs = s.inputs := by
  unfold State.offer; split <;> rfl
@[simp] theorem State.offer_target (s : State) : s.offer.target = s.target := by
  unfold State.offer; split <;> rfl
@[simp] theorem State.offer_transport (s : State) : s.offer.transport = s.transport := by
  unfold State.offer; split <;> rfl
@[simp] theorem State.offer_reqTaken (s : State) : s.offer.reqTaken = s.reqTaken := by
  unfold State.offer; split <;> rfl
@[simp] theorem State.offer_waits (s : State) : s.offer.waits = s.waits := by
  unfold State.offer; split <;> rfl
@[simp] theorem State.offer_log (s : State) : s.offer.log = (if s.hostReady then s.log ++ [.response s.rsp.word] else s.log) := by
  unfold State.offer; split <;> rfl

@[simp] theorem State.finish_cfg (s : State) (r : Response) :
    (s.finish r).cfg = s.cfg := by simp [State.finish]
@[simp] theorem State.finish_cmd (s : State) (r : Response) :
    (s.finish r).cmd = s.cmd := by simp [State.finish]
@[simp] theorem State.finish_rsp (s : State) (r : Response) :
    (s.finish r).rsp = r := by simp [State.finish]
@[simp] theorem State.finish_addrWidth (s : State) (r : Response) :
    (s.finish r).addrWidth = s.addrWidth := by simp [State.finish]
@[simp] theorem State.finish_widthValid (s : State) (r : Response) :
    (s.finish r).widthValid = s.widthValid := by simp [State.finish]
@[simp] theorem State.finish_v6Bound (s : State) (r : Response) :
    (s.finish r).v6Bound = s.v6Bound := by simp [State.finish]
@[simp] theorem State.finish_busy (s : State) (r : Response) :
    (s.finish r).busy = (s.busy && !s.hostReady) := by simp [State.finish]
@[simp] theorem State.finish_seq (s : State) (r : Response) :
    (s.finish r).seq = (if s.hostReady then .idle else .responding) := by simp [State.finish]
@[simp] theorem State.finish_diagOut (s : State) (r : Response) :
    (s.finish r).diagOut = s.diagOut := by simp [State.finish]
@[simp] theorem State.finish_hostReady (s : State) (r : Response) :
    (s.finish r).hostReady = s.hostReady := by simp [State.finish]
@[simp] theorem State.finish_inputs (s : State) (r : Response) :
    (s.finish r).inputs = s.inputs := by simp [State.finish]
@[simp] theorem State.finish_target (s : State) (r : Response) :
    (s.finish r).target = s.target := by simp [State.finish]
@[simp] theorem State.finish_transport (s : State) (r : Response) :
    (s.finish r).transport = s.transport := by simp [State.finish]
@[simp] theorem State.finish_reqTaken (s : State) (r : Response) :
    (s.finish r).reqTaken = s.reqTaken := by simp [State.finish]
@[simp] theorem State.finish_waits (s : State) (r : Response) :
    (s.finish r).waits = s.waits := by simp [State.finish]
@[simp] theorem State.finish_log (s : State) (r : Response) :
    (s.finish r).log = (if s.hostReady then s.log ++ [.response (Response.word (r))] else s.log) := by simp [State.finish]

@[simp] theorem State.raiseFail_cfg (s : State) (q : Reason) :
    (s.raiseFail q).cfg = s.cfg := by simp [State.raiseFail]
@[simp] theorem State.raiseFail_cmd (s : State) (q : Reason) :
    (s.raiseFail q).cmd = s.cmd := by simp [State.raiseFail]
@[simp] theorem State.raiseFail_rsp (s : State) (q : Reason) :
    (s.raiseFail q).rsp = failResponse q s.addrWidth := by simp [State.raiseFail, failResponse]
@[simp] theorem State.raiseFail_addrWidth (s : State) (q : Reason) :
    (s.raiseFail q).addrWidth = s.addrWidth := by simp [State.raiseFail]
@[simp] theorem State.raiseFail_widthValid (s : State) (q : Reason) :
    (s.raiseFail q).widthValid = s.widthValid := by simp [State.raiseFail]
@[simp] theorem State.raiseFail_v6Bound (s : State) (q : Reason) :
    (s.raiseFail q).v6Bound = s.v6Bound := by simp [State.raiseFail]
@[simp] theorem State.raiseFail_busy (s : State) (q : Reason) :
    (s.raiseFail q).busy = (s.busy && !s.hostReady) := by simp [State.raiseFail]
@[simp] theorem State.raiseFail_seq (s : State) (q : Reason) :
    (s.raiseFail q).seq = (if s.hostReady then .idle else .responding) := by simp [State.raiseFail]
@[simp] theorem State.raiseFail_diagOut (s : State) (q : Reason) :
    (s.raiseFail q).diagOut = s.diagOut := by simp [State.raiseFail]
@[simp] theorem State.raiseFail_hostReady (s : State) (q : Reason) :
    (s.raiseFail q).hostReady = s.hostReady := by simp [State.raiseFail]
@[simp] theorem State.raiseFail_inputs (s : State) (q : Reason) :
    (s.raiseFail q).inputs = s.inputs := by simp [State.raiseFail]
@[simp] theorem State.raiseFail_target (s : State) (q : Reason) :
    (s.raiseFail q).target = s.target := by simp [State.raiseFail]
@[simp] theorem State.raiseFail_transport (s : State) (q : Reason) :
    (s.raiseFail q).transport = s.transport := by simp [State.raiseFail]
@[simp] theorem State.raiseFail_reqTaken (s : State) (q : Reason) :
    (s.raiseFail q).reqTaken = s.reqTaken := by simp [State.raiseFail]
@[simp] theorem State.raiseFail_waits (s : State) (q : Reason) :
    (s.raiseFail q).waits = s.waits := by simp [State.raiseFail]
@[simp] theorem State.raiseFail_log (s : State) (q : Reason) :
    (s.raiseFail q).log = (if s.hostReady then s.log ++ [.response (Response.word (failResponse q s.addrWidth))] else s.log) := by simp [State.raiseFail, failResponse]

@[simp] theorem State.answerWith_cfg (s : State) (ok : Bool) (q : Reason) (cls : BitVec 4) (a : Addr) (d : Word) :
    (s.answerWith ok q cls a d).cfg = s.cfg := by simp [State.answerWith]
@[simp] theorem State.answerWith_cmd (s : State) (ok : Bool) (q : Reason) (cls : BitVec 4) (a : Addr) (d : Word) :
    (s.answerWith ok q cls a d).cmd = s.cmd := by simp [State.answerWith]
@[simp] theorem State.answerWith_rsp (s : State) (ok : Bool) (q : Reason) (cls : BitVec 4) (a : Addr) (d : Word) :
    (s.answerWith ok q cls a d).rsp = ⟨ok, q.code, cls, s.addrWidth, a, d⟩ := by simp [State.answerWith]
@[simp] theorem State.answerWith_addrWidth (s : State) (ok : Bool) (q : Reason) (cls : BitVec 4) (a : Addr) (d : Word) :
    (s.answerWith ok q cls a d).addrWidth = s.addrWidth := by simp [State.answerWith]
@[simp] theorem State.answerWith_widthValid (s : State) (ok : Bool) (q : Reason) (cls : BitVec 4) (a : Addr) (d : Word) :
    (s.answerWith ok q cls a d).widthValid = s.widthValid := by simp [State.answerWith]
@[simp] theorem State.answerWith_v6Bound (s : State) (ok : Bool) (q : Reason) (cls : BitVec 4) (a : Addr) (d : Word) :
    (s.answerWith ok q cls a d).v6Bound = s.v6Bound := by simp [State.answerWith]
@[simp] theorem State.answerWith_busy (s : State) (ok : Bool) (q : Reason) (cls : BitVec 4) (a : Addr) (d : Word) :
    (s.answerWith ok q cls a d).busy = (s.busy && !s.hostReady) := by simp [State.answerWith]
@[simp] theorem State.answerWith_seq (s : State) (ok : Bool) (q : Reason) (cls : BitVec 4) (a : Addr) (d : Word) :
    (s.answerWith ok q cls a d).seq = (if s.hostReady then .idle else .responding) := by simp [State.answerWith]
@[simp] theorem State.answerWith_diagOut (s : State) (ok : Bool) (q : Reason) (cls : BitVec 4) (a : Addr) (d : Word) :
    (s.answerWith ok q cls a d).diagOut = s.diagOut := by simp [State.answerWith]
@[simp] theorem State.answerWith_hostReady (s : State) (ok : Bool) (q : Reason) (cls : BitVec 4) (a : Addr) (d : Word) :
    (s.answerWith ok q cls a d).hostReady = s.hostReady := by simp [State.answerWith]
@[simp] theorem State.answerWith_inputs (s : State) (ok : Bool) (q : Reason) (cls : BitVec 4) (a : Addr) (d : Word) :
    (s.answerWith ok q cls a d).inputs = s.inputs := by simp [State.answerWith]
@[simp] theorem State.answerWith_target (s : State) (ok : Bool) (q : Reason) (cls : BitVec 4) (a : Addr) (d : Word) :
    (s.answerWith ok q cls a d).target = s.target := by simp [State.answerWith]
@[simp] theorem State.answerWith_transport (s : State) (ok : Bool) (q : Reason) (cls : BitVec 4) (a : Addr) (d : Word) :
    (s.answerWith ok q cls a d).transport = s.transport := by simp [State.answerWith]
@[simp] theorem State.answerWith_reqTaken (s : State) (ok : Bool) (q : Reason) (cls : BitVec 4) (a : Addr) (d : Word) :
    (s.answerWith ok q cls a d).reqTaken = s.reqTaken := by simp [State.answerWith]
@[simp] theorem State.answerWith_waits (s : State) (ok : Bool) (q : Reason) (cls : BitVec 4) (a : Addr) (d : Word) :
    (s.answerWith ok q cls a d).waits = s.waits := by simp [State.answerWith]
@[simp] theorem State.answerWith_log (s : State) (ok : Bool) (q : Reason) (cls : BitVec 4) (a : Addr) (d : Word) :
    (s.answerWith ok q cls a d).log = (if s.hostReady then s.log ++ [.response (Response.word (⟨ok, q.code, cls, s.addrWidth, a, d⟩))] else s.log) := by simp [State.answerWith]

/-! ### `State.carry` and `State.answered` -/

@[simp] theorem State.carry_cfg (s : State) (role : Role) (r : Request) (a : Answer) :
    (s.carry role r a).cfg = s.cfg := by 
  unfold State.carry; repeat' split
  all_goals rfl
@[simp] theorem State.carry_cmd (s : State) (role : Role) (r : Request) (a : Answer) :
    (s.carry role r a).cmd = s.cmd := by 
  unfold State.carry; repeat' split
  all_goals rfl
@[simp] theorem State.carry_rsp (s : State) (role : Role) (r : Request) (a : Answer) :
    (s.carry role r a).rsp = s.rsp := by 
  unfold State.carry; repeat' split
  all_goals rfl
@[simp] theorem State.carry_addrWidth (s : State) (role : Role) (r : Request) (a : Answer) :
    (s.carry role r a).addrWidth = s.addrWidth := by 
  unfold State.carry; repeat' split
  all_goals rfl
@[simp] theorem State.carry_widthValid (s : State) (role : Role) (r : Request) (a : Answer) :
    (s.carry role r a).widthValid = s.widthValid := by 
  unfold State.carry; repeat' split
  all_goals rfl
@[simp] theorem State.carry_v6Bound (s : State) (role : Role) (r : Request) (a : Answer) :
    (s.carry role r a).v6Bound = s.v6Bound := by 
  unfold State.carry; repeat' split
  all_goals rfl
@[simp] theorem State.carry_busy (s : State) (role : Role) (r : Request) (a : Answer) :
    (s.carry role r a).busy = s.busy := by 
  unfold State.carry; repeat' split
  all_goals rfl
@[simp] theorem State.carry_seq (s : State) (role : Role) (r : Request) (a : Answer) :
    (s.carry role r a).seq = s.seq := by 
  unfold State.carry; repeat' split
  all_goals rfl
@[simp] theorem State.carry_diagOut (s : State) (role : Role) (r : Request) (a : Answer) :
    (s.carry role r a).diagOut = s.diagOut := by 
  unfold State.carry; repeat' split
  all_goals rfl
@[simp] theorem State.carry_hostReady (s : State) (role : Role) (r : Request) (a : Answer) :
    (s.carry role r a).hostReady = s.hostReady := by 
  unfold State.carry; repeat' split
  all_goals rfl
@[simp] theorem State.carry_inputs (s : State) (role : Role) (r : Request) (a : Answer) :
    (s.carry role r a).inputs = s.inputs := by 
  unfold State.carry; repeat' split
  all_goals rfl
@[simp] theorem State.carry_reqTaken (s : State) (role : Role) (r : Request) (a : Answer) :
    (s.carry role r a).reqTaken = s.reqTaken := by 
  unfold State.carry; repeat' split
  all_goals rfl
@[simp] theorem State.carry_waits (s : State) (role : Role) (r : Request) (a : Answer) :
    (s.carry role r a).waits = s.waits := by 
  unfold State.carry; repeat' split
  all_goals rfl
@[simp] theorem State.carry_log (s : State) (role : Role) (r : Request) (a : Answer) :
    (s.carry role r a).log = s.log := by 
  unfold State.carry; repeat' split
  all_goals rfl

@[simp] theorem State.answered_cfg (s : State) (role : Role) (r : Request) (a : Answer) :
    (s.answered role r a).cfg = s.cfg := by simp [State.answered]
@[simp] theorem State.answered_cmd (s : State) (role : Role) (r : Request) (a : Answer) :
    (s.answered role r a).cmd = s.cmd := by simp [State.answered]
@[simp] theorem State.answered_rsp (s : State) (role : Role) (r : Request) (a : Answer) :
    (s.answered role r a).rsp = s.rsp := by simp [State.answered]
@[simp] theorem State.answered_addrWidth (s : State) (role : Role) (r : Request) (a : Answer) :
    (s.answered role r a).addrWidth = s.addrWidth := by simp [State.answered]
@[simp] theorem State.answered_widthValid (s : State) (role : Role) (r : Request) (a : Answer) :
    (s.answered role r a).widthValid = s.widthValid := by simp [State.answered]
@[simp] theorem State.answered_v6Bound (s : State) (role : Role) (r : Request) (a : Answer) :
    (s.answered role r a).v6Bound = s.v6Bound := by simp [State.answered]
@[simp] theorem State.answered_busy (s : State) (role : Role) (r : Request) (a : Answer) :
    (s.answered role r a).busy = s.busy := by simp [State.answered]
@[simp] theorem State.answered_seq (s : State) (role : Role) (r : Request) (a : Answer) :
    (s.answered role r a).seq = s.seq := by simp [State.answered]
@[simp] theorem State.answered_diagOut (s : State) (role : Role) (r : Request) (a : Answer) :
    (s.answered role r a).diagOut = s.diagOut := by simp [State.answered]
@[simp] theorem State.answered_hostReady (s : State) (role : Role) (r : Request) (a : Answer) :
    (s.answered role r a).hostReady = s.hostReady := by simp [State.answered]
@[simp] theorem State.answered_inputs (s : State) (role : Role) (r : Request) (a : Answer) :
    (s.answered role r a).inputs = s.inputs := by simp [State.answered]
@[simp] theorem State.answered_target (s : State) (role : Role) (r : Request) (a : Answer) :
    (s.answered role r a).target = (s.carry role r a).target := by simp [State.answered]
@[simp] theorem State.answered_transport (s : State) (role : Role) (r : Request) (a : Answer) :
    (s.answered role r a).transport = (s.carry role r a).transport := by simp [State.answered]
@[simp] theorem State.answered_reqTaken (s : State) (role : Role) (r : Request) (a : Answer) :
    (s.answered role r a).reqTaken = false := by simp [State.answered]
@[simp] theorem State.answered_waits (s : State) (role : Role) (r : Request) (a : Answer) :
    (s.answered role r a).waits = 0 := by simp [State.answered]
@[simp] theorem State.answered_log (s : State) (role : Role) (r : Request) (a : Answer) :
    (s.answered role r a).log = s.log ++ [.xfer r (a.seen r)] := by simp [State.answered]

end Sys2Proof.Machine
end

