-- ==== Sys2Proof/Laws/Ops.lean ====
section
/-! SUPPORT. What each shared operation can do, said once: the register map of the reference target,
the ends of an operation, one transaction at the open transport. -/

namespace Sys2Proof.Machine

/-! ### The register map (20_memory.md R67) -/

theorem RegMap.wf_iff (m : RegMap) :
    m.wf = true ↔ m.Pairwise (fun a b => a.1 < b.1) ∧ ∀ e ∈ m, e.2 ≠ 0#32 := by
  simp [RegMap.wf]

theorem RegMap.get_eq_zero {m : RegMap} {k : Nat} (h : ∀ e ∈ m, k < e.1) : m.get k = 0#32 := by
  induction m with
  | nil => rfl
  | cons e m ih =>
    have hk := h e (by simp)
    simp only [RegMap.get, if_neg (Nat.ne_of_lt hk)]
    exact ih fun e' he' => h e' (by simp [he'])

/-- Every key a write leaves in the map was there before or is the key written. -/
theorem RegMap.mem_set {m : RegMap} {k : Nat} {v : Word} {e : Nat × Word} (h : e ∈ m.set k v) :
    e ∈ m ∨ e = (k, v) ∧ v ≠ 0#32 := by
  induction m with
  | nil => by_cases hv : v = 0#32 <;> simp_all [RegMap.set]
  | cons e' m ih =>
    simp only [RegMap.set] at h
    split_ifs at h with h1 h2 h3 h4 <;> simp only [List.mem_cons] at h ⊢ <;> grind

/-- A write keeps the canonical form. -/
theorem RegMap.set_wf {m : RegMap} (h : m.wf = true) (k : Nat) (v : Word) :
    (m.set k v).wf = true := by
  rw [RegMap.wf_iff] at h ⊢
  refine ⟨?_, fun e he => ?_⟩
  · obtain ⟨hp, -⟩ := h
    induction m with
    | nil => by_cases hv : v = 0#32 <;> simp [RegMap.set, hv]
    | cons e' m ih =>
      rw [List.pairwise_cons] at hp
      simp only [RegMap.set]
      split_ifs with h1 h2 h3 h4
      · exact List.pairwise_cons.2 hp
      · refine List.pairwise_cons.2 ⟨fun a ha => ?_, List.pairwise_cons.2 hp⟩
        rcases List.mem_cons.1 ha with rfl | ha
        · exact h1
        · exact Nat.lt_trans h1 (hp.1 a ha)
      · exact hp.2
      · exact List.pairwise_cons.2 ⟨fun a ha => h3 ▸ hp.1 a ha, hp.2⟩
      · refine List.pairwise_cons.2 ⟨fun a ha => ?_, ih hp.2⟩
        rcases RegMap.mem_set ha with ha | ⟨rfl, -⟩
        · exact hp.1 a ha
        · simp only; omega
  · rcases RegMap.mem_set he with he | ⟨rfl, hv⟩
    · exact h.2 e he
    · exact hv

/-- Reading the key written gives the value written. -/
theorem RegMap.get_set_same {m : RegMap} (h : m.wf = true) (k : Nat) (v : Word) :
    (m.set k v).get k = v := by
  rw [RegMap.wf_iff] at h
  obtain ⟨hp, -⟩ := h
  induction m with
  | nil => by_cases hv : v = 0#32 <;> simp [RegMap.set, RegMap.get, hv]
  | cons e' m ih =>
    rw [List.pairwise_cons] at hp
    simp only [RegMap.set]
    split_ifs with h1 h2 h3 h4
    · subst h2
      exact RegMap.get_eq_zero fun e he => by
        rcases List.mem_cons.1 he with rfl | he
        · exact h1
        · exact Nat.lt_trans h1 (hp.1 e he)
    · simp [RegMap.get]
    · subst h4
      exact RegMap.get_eq_zero fun e he => h3 ▸ hp.1 e he
    · simp [RegMap.get]
    · simp only [RegMap.get, if_neg h3]
      exact ih hp.2

/-- Reading another key gives what it gave before. -/
theorem RegMap.get_set_other (m : RegMap) {k k' : Nat} (v : Word) (hk : k' ≠ k) :
    (m.set k v).get k' = m.get k' := by
  induction m with
  | nil => by_cases hv : v = 0#32 <;> simp [RegMap.set, RegMap.get, hv, hk]
  | cons e' m ih =>
    simp only [RegMap.set]
    split_ifs with h1 h2 h3 h4 <;> simp_all [RegMap.get]

/-- Different places have different keys. -/
theorem regKey_inj {a b a' b' : Word} {x x' : XAddr} (h : regKey a b x = regKey a' b' x') :
    a = a' ∧ b = b' ∧ x = x' := by
  have := b.isLt; have := b'.isLt; have := x.isLt; have := x'.isLt
  simp only [regKey] at h
  refine ⟨BitVec.eq_of_toNat_eq ?_, BitVec.eq_of_toNat_eq ?_, BitVec.eq_of_toNat_eq ?_⟩ <;> omega

/-! ### The reference target (20_memory.md R67) -/

/-- A write at the reference target keeps its map canonical. -/
theorem RefTarget.write_wf {t : RefTarget} (h : t.regs.wf = true) (c : Cfg) (tgt : Target)
    (x : XAddr) (d : Word) : (t.write c tgt x d).1.regs.wf = true := by
  unfold RefTarget.write
  split_ifs
  · exact h
  · exact h
  · exact RegMap.set_wf h _ _

/-- What an answer leaves of the transport: the open one moves on in its list, the reference target
keeps a canonical map. -/
theorem State.carry_transport_cases (s : State) (role : Role) (r : Request) (a : Answer) :
    (∃ as, s.transport = .live as ∧ (s.carry role r a).transport = .live as.tail) ∨
    ∃ t t', s.transport = .reference t ∧ (s.carry role r a).transport = .reference t' ∧
      (t.regs.wf = true → t'.regs.wf = true) := by
  unfold State.carry
  split
  next as h => exact .inl ⟨as, h, rfl⟩
  next t h =>
    right
    split
    · exact ⟨t, _, h, rfl, fun hw => RefTarget.write_wf hw _ _ _ _⟩
    · exact ⟨t, _, h, rfl, id⟩

/-! ### One transaction at the open transport -/

theorem State.answer_live {s : State} {a : Answer} {as : List Answer}
    (h : s.transport = .live (a :: as)) (r : Request) : s.answer r = a := by
  simp [State.answer, h]

theorem State.carry_live {s : State} {as : List Answer} (h : s.transport = .live as) (role : Role)
    (r : Request) (a : Answer) :
    s.carry role r a = { s with
      transport := .live as.tail
      target := if a.lands then s.target.land s.cfg s.log role r else s.target } := by
  simp [State.carry, h]

/-- The bank a `SelectDP` selects is the one SELECT then exposes (10_state.md R29). -/
theorem bank_exposed (k : BitVec 4) : (k.setWidth 32 : Word).extractLsb' 0 4 = k := by
  ext i hi; simp [BitVec.getElem_extractLsb', BitVec.getLsbD_setWidth, hi]; omega

/-- `SelectDP(k)` writes `zext_32(k)` (40_bank_selector.md R113). -/
theorem selVal_zero_offset (c : Cfg) (lo : Word) : selVal c lo 0#16 = lo := by
  simp [selVal, bankOf]

/-! ### Over a log -/

@[simp] theorem diags_append (es fs : List Event) : diags (es ++ fs) = diags es ++ diags fs := by
  induction es with
  | nil => rfl
  | cons e es ih => cases e <;> simp [diags, ih]

/-! ### The ends of an operation -/

/-- `offer` does one of two things (30_encoding.md R91). -/
theorem State.offer_cases (s : State) :
    (s.hostReady = true ∧ s.offer =
      { s with busy := false, seq := .idle, log := s.log ++ [.response s.rsp.word] }) ∨
    s.hostReady = false ∧ s.offer = s := by
  unfold State.offer
  cases h : s.hostReady
  · exact .inr ⟨rfl, by simp⟩
  · exact .inl ⟨rfl, by simp⟩

theorem State.raiseFail_eq (s : State) (q : Reason) :
    s.raiseFail q = s.finish (failResponse q s.addrWidth) := rfl

end Sys2Proof.Machine
end

