-- ==== Sys2Proof/Laws/PerInstr.lean ====
section
/-! SUPPORT. Statements made once per constructor of `Instr`, about the instruction as data. -/

namespace Sys2Proof.Laws.EncodesLegally

/-- The fields of the operation pass 30_encoding.md R84, and its word has the reserved bits 0. -/
def Statement (i : Instr) : Prop :=
  i.wellFormed = true ∧ (encode i).extractLsb' 112 11 = 0#11

theorem selb (hiv : Bool) (off : Offset) (addr : Addr) (data : Word) :
    Statement (.selb hiv off addr data) :=
  ⟨by simp [Instr.wellFormed, Instr.command, Command.legal, Command.opLegal, Command.rsvZero,
    Command.hivAllowed], by simp only [encode, Instr.command, Command.word]; bv_normalize⟩

theorem rdbase (off : Offset) (addr : Addr) (data : Word) :
    Statement (.rdbase off addr data) :=
  ⟨by simp [Instr.wellFormed, Instr.command, Command.legal, Command.opLegal, Command.rsvZero,
    Command.hivAllowed], by simp only [encode, Instr.command, Command.word]; bv_normalize⟩

theorem init (off : Offset) (addr : Addr) (data : Word) :
    Statement (.init off addr data) :=
  ⟨by simp [Instr.wellFormed, Instr.command, Command.legal, Command.opLegal, Command.rsvZero,
    Command.hivAllowed], by simp only [encode, Instr.command, Command.word]; bv_normalize⟩

theorem aprd (off : Offset) (addr : Addr) (data : Word) :
    Statement (.aprd off addr data) :=
  ⟨by simp [Instr.wellFormed, Instr.command, Command.legal, Command.opLegal, Command.rsvZero,
    Command.hivAllowed], by simp only [encode, Instr.command, Command.word]; bv_normalize⟩

theorem apwr (off : Offset) (addr : Addr) (data : Word) :
    Statement (.apwr off addr data) :=
  ⟨by simp [Instr.wellFormed, Instr.command, Command.legal, Command.opLegal, Command.rsvZero,
    Command.hivAllowed], by simp only [encode, Instr.command, Command.word]; bv_normalize⟩

theorem probe (off : Offset) (addr : Addr) (data : Word) :
    Statement (.probe off addr data) :=
  ⟨by simp [Instr.wellFormed, Instr.command, Command.legal, Command.opLegal, Command.rsvZero,
    Command.hivAllowed], by simp only [encode, Instr.command, Command.word]; bv_normalize⟩

end Sys2Proof.Laws.EncodesLegally
end

