-- ==== Sys2Proof/Laws/Sequencer.lean ====
section
/-! SUPPORT. What running a script can do, said once. -/

namespace Sys2Proof.Machine

/-! ### One node of a script -/

theorem Script.run_xfer_ok {s : State} {role : Role} {r : Request} {k : Word → Script} {v : Word}
    (h : s.answer r = .ok v) :
    (Script.xfer role r k).run s =
      (k (r.value v)).run ((s.answered role r (.ok v)).advance (r.value v)) := by
  simp [Script.run, h]

theorem Script.run_xfer_err {s : State} {role : Role} {r : Request} {k : Word → Script} {l : Bool}
    (h : s.answer r = .err l) :
    (Script.xfer role r k).run s = (s.answered role r (.err l)).raiseFail .eTransport := by
  simp [Script.run, h]

theorem Script.run_xfer_silent {s : State} {role : Role} {r : Request} {k : Word → Script}
    {taken : Bool} (h : s.answer r = .silent taken) :
    (Script.xfer role r k).run s = s.wait taken := by
  simp [Script.run, h]

/-- An induction over the run of a script: what the ends of an operation and a wait establish, and
every step on the way keeps, holds after the run. -/
theorem Script.run_induction {P : State → Prop} {Q : State → Prop}
    (hxfer : ∀ s role r v, P s → P ((s.answered role r (.ok v)).advance (r.value v)))
    (hbind : ∀ s, P s → P s.bindV6)
    (hwidth : ∀ s w, P s → P (s.recordWidth w))
    (hdiag : ∀ s w, P s → P (s.emit w))
    (hfail : ∀ s role r l, P s → Q ((s.answered role r (.err l)).raiseFail .eTransport))
    (hwait : ∀ s taken, P s → Q (s.wait taken))
    (hraise : ∀ s q, P s → Q (s.raiseFail q))
    (hret : ∀ s ok q cls a d, P s → Q (s.answerWith ok q cls a d)) :
    ∀ (p : Script) (s : State), P s → Q (p.run s) := by
  intro p
  induction p with
  | xfer role r k ih =>
    intro s hs
    cases h : s.answer r with
    | ok v => rw [Script.run_xfer_ok h]; exact ih _ _ (hxfer s role r v hs)
    | err l => rw [Script.run_xfer_err h]; exact hfail s role r l hs
    | silent taken => rw [Script.run_xfer_silent h]; exact hwait s taken hs
  | bindV6 k ih => exact fun s hs => ih _ (hbind s hs)
  | recordWidth w k ih => exact fun s hs => ih _ (hwidth s w hs)
  | readWidth k ih => exact fun s hs => ih _ s hs
  | diag w k ih => exact fun s hs => ih _ (hdiag s w hs)
  | fail q => exact fun s hs => hraise s q hs
  | ret ok q cls a d => exact fun s hs => hret s ok q cls a d hs

/-! ### What no script changes -/

/-- No script changes the configuration, the command latches, `rsp_ready` or what the world does
next. -/
theorem Script.run_frame (p : Script) (s : State) :
    (p.run s).cfg = s.cfg ∧ (p.run s).cmd = s.cmd ∧ (p.run s).hostReady = s.hostReady ∧
      (p.run s).inputs = s.inputs := by
  refine Script.run_induction
    (P := fun t => t.cfg = s.cfg ∧ t.cmd = s.cmd ∧ t.hostReady = s.hostReady ∧ t.inputs = s.inputs)
    (Q := fun t => t.cfg = s.cfg ∧ t.cmd = s.cmd ∧ t.hostReady = s.hostReady ∧ t.inputs = s.inputs)
    ?_ ?_ ?_ ?_ ?_ ?_ ?_ ?_ p s ⟨rfl, rfl, rfl, rfl⟩ <;> intros <;> simpa

@[simp] theorem Script.run_cfg (p : Script) (s : State) : (p.run s).cfg = s.cfg :=
  (p.run_frame s).1

@[simp] theorem Script.run_latches (p : Script) (s : State) : (p.run s).cmd = s.cmd :=
  (p.run_frame s).2.1

@[simp] theorem Script.run_hostReady (p : Script) (s : State) :
    (p.run s).hostReady = s.hostReady := (p.run_frame s).2.2.1

@[simp] theorem Script.run_inputs (p : Script) (s : State) : (p.run s).inputs = s.inputs :=
  (p.run_frame s).2.2.2

/-- The log only grows (00_scope.md R18). -/
theorem Script.run_log (p : Script) (s : State) : s.log <+: (p.run s).log := by
  refine Script.run_induction (P := fun t => s.log <+: t.log) (Q := fun t => s.log <+: t.log)
    ?_ ?_ ?_ ?_ ?_ ?_ ?_ ?_ p s (List.prefix_refl _)
  · intro t role r v h; simpa using h.trans (List.prefix_append ..)
  · intro t h; simpa using h
  · intro t w h; simpa using h
  · intro t w h; simpa using h.trans (List.prefix_append ..)
  · intro t role r l h
    simp only [State.raiseFail_log, State.answered_log]
    split
    · exact h.trans ((List.prefix_append ..).trans (List.prefix_append ..))
    · exact h.trans (List.prefix_append ..)
  · intro t taken h; simpa using h
  · intro t q h
    simp only [State.raiseFail_log]
    split
    · exact h.trans (List.prefix_append ..)
    · exact h
  · intro t ok q cls a d h
    simp only [State.answerWith_log]
    split
    · exact h.trans (List.prefix_append ..)
    · exact h

/-- A running operation ends a run in one of three ways: its response was taken, its response is
presented, or a request is outstanding (30_encoding.md R91). -/
theorem Script.run_ends (p : Script) (s : State) (hb : s.busy = true)
    (hs : ∃ vs, s.seq = .running vs) :
    (p.run s).busy = false ∧ (p.run s).seq = .idle ∧ s.hostReady = true ∨
    (p.run s).busy = true ∧ (p.run s).seq = .responding ∧ s.hostReady = false ∨
    (p.run s).busy = true ∧ ∃ vs, (p.run s).seq = .running vs := by
  refine Script.run_induction
    (P := fun t => t.busy = true ∧ (∃ vs, t.seq = .running vs) ∧ t.hostReady = s.hostReady)
    (Q := fun t => t.busy = false ∧ t.seq = .idle ∧ s.hostReady = true ∨
      t.busy = true ∧ t.seq = .responding ∧ s.hostReady = false ∨
      t.busy = true ∧ ∃ vs, t.seq = .running vs)
    ?_ ?_ ?_ ?_ ?_ ?_ ?_ ?_ p s ⟨hb, hs, rfl⟩
  · rintro t role r v ⟨hb, ⟨vs, hv⟩, hh⟩
    exact ⟨by simp [hb], ⟨vs ++ [r.value v], by simp [State.advance, hv]⟩, by simp [hh]⟩
  · rintro t h; simpa using h
  · rintro t w h; simpa using h
  · rintro t w h; simpa using h
  · rintro t role r l ⟨hb, -, hh⟩; cases h : s.hostReady <;> simp [hb, hh, h]
  · rintro t taken ⟨hb, hv, -⟩; exact .inr (.inr ⟨by simpa, by simpa⟩)
  · rintro t q ⟨hb, -, hh⟩; cases h : s.hostReady <;> simp [hb, hh, h]
  · rintro t ok q cls a d ⟨hb, -, hh⟩; cases h : s.hostReady <;> simp [hb, hh, h]

/-! ### Presenting a command -/

theorem State.perform_busy {s : State} (h : s.busy = true) (i : Instr) (p : Script) :
    s.perform i p = s := by simp [State.perform, h]

theorem State.perform_idle {s : State} (h : s.busy = false) (i : Instr) (p : Script) :
    s.perform i p = p.run (s.accept (encode i)) := by simp [State.perform, h]

/-- Acceptance latches the fields of the operation (10_state.md R21). -/
theorem State.accept_encode_cmd (s : State) (i : Instr) :
    (s.accept (encode i)).cmd = latchesOf i := by
  simp [encode, Command.ofWord_word, latchesOf]

/-- Every operation is its script, run after acceptance: the one place that looks into the six
meanings. -/
theorem exec_eq_perform (i : Instr) (s : State) :
    exec i s = .next (s.perform i (scriptOf s.cfg i)) := by cases i <;> rfl

/-- No operation stops: its outcome is a next state. -/
theorem exec_next_iff {i : Instr} {s t : State} :
    exec i s = .next t ↔ t = s.perform i (scriptOf s.cfg i) := by
  rw [exec_eq_perform]; exact ⟨fun h => by injection h with h; exact h.symm, fun h => h ▸ rfl⟩

end Sys2Proof.Machine
end

