-- ==== Sys2Proof/Laws/Step.lean ====
section
/-! SUPPORT. What going on with an operation, and a step of the machine, can do, said once. -/

namespace Sys2Proof.Machine

/-- A script is in flight only while its operation runs (10_state.md R27). -/
theorem State.remaining_cases {s : State} {p : Script} (h : s.remaining = some p) :
    ∃ vs i, s.seq = .running vs ∧ s.latched = .ok i ∧
      p = (scriptOf s.cfg i).after s.addrWidth vs := by
  unfold State.remaining at h
  split at h
  next vs i hs hi => exact ⟨vs, i, hs, hi, by simpa using h.symm⟩
  next => cases h

/-- Going on is one of two things: the presented response is offered again, or the outstanding
request is taken up again (20_memory.md R52, 30_encoding.md R91). -/
theorem State.resume_cases {s t : State} (h : s.resume = some t) :
    s.seq = .responding ∧ t = s.offer ∨
    ∃ vs i role r k, s.seq = .running vs ∧ s.latched = .ok i ∧
      (scriptOf s.cfg i).after s.addrWidth vs = .xfer role r k ∧
      t = (Script.xfer role r k).run s := by
  unfold State.resume at h
  split at h
  next hs => exact .inl ⟨hs, by simpa using h.symm⟩
  next hr =>
    obtain ⟨vs, i, hs, hi, hp⟩ := State.remaining_cases hr
    exact .inr ⟨vs, i, _, _, _, hs, hi, hp.symm, by simpa using h.symm⟩
  next => cases h

/-- A step in which nobody outside moves: an idle BSE waits, a BUSY one goes on. -/
theorem goOn_cases {s t : State} (h : goOn s = .next t) :
    s.busy = false ∧ t = s ∨ s.busy = true ∧ s.resume = some t := by
  unfold goOn at h
  split at h
  next hb =>
    split at h
    next u hu => exact .inr ⟨hb, by injection h with h; rw [hu, h]⟩
    next => cases h
  next hb => exact .inl ⟨by simpa using hb, by injection h with h; exact h.symm⟩

/-- Everything a move can do (log 2 for who moves). -/
theorem move_cases {s t : State} (h : move s = .next t) :
    (∃ u, (u = s ∨ ∃ rest, s.inputs = .quiet :: rest ∧ u = { s with inputs := rest }) ∧
      (u.busy = false ∧ t = u ∨ u.busy = true ∧ u.resume = some t)) ∨
    (∃ w rest, s.inputs = .command w :: rest ∧ s.busy = false ∧
      ((∃ i, decode w = .ok i ∧ exec i { s with inputs := rest } = .next t) ∨
        (∃ e, decode w = .error e) ∧ t = State.rejectWord { s with inputs := rest } w)) ∨
    (∃ b rest, s.inputs = .ready b :: rest ∧ t = State.setReady { s with inputs := rest } b) ∨
    (∃ landed rest, s.inputs = .rst landed :: rest ∧
      t = State.hardReset { s with inputs := rest } (s.targetAtReset landed) landed) ∨
    (∃ a b rest, s.inputs = .otherUsers a b :: rest ∧
      t = State.interfere { s with inputs := rest } a b) ∨
    ∃ a b x v rest, s.inputs = .targetChange a b x v :: rest ∧
      t = State.targetChange { s with inputs := rest } a b x v := by
  unfold move at h
  split at h
  next w rest hi =>
    split at h
    next => exact .inl ⟨s, .inl rfl, goOn_cases h⟩
    next hb =>
      refine .inr (.inl ⟨w, rest, hi, by simpa using hb, ?_⟩)
      unfold present at h
      split at h
      next i hd => exact .inl ⟨i, hd, h⟩
      next e hd => exact .inr ⟨⟨e, hd⟩, by injection h with h; exact h.symm⟩
  next rest hi => exact .inl ⟨_, .inr ⟨rest, hi, rfl⟩, goOn_cases h⟩
  next b rest hi =>
    exact .inr (.inr (.inl ⟨b, rest, hi, by injection h with h; exact h.symm⟩))
  next l rest hi =>
    exact .inr (.inr (.inr (.inl ⟨l, rest, hi, by injection h with h; exact h.symm⟩)))
  next a b rest hi =>
    exact .inr (.inr (.inr (.inr (.inl ⟨a, b, rest, hi, by injection h with h; exact h.symm⟩))))
  next a b x v rest hi =>
    exact .inr (.inr (.inr (.inr (.inr
      ⟨a, b, x, v, rest, hi, by injection h with h; exact h.symm⟩))))
  next => exact .inl ⟨s, .inl rfl, goOn_cases h⟩

/-- A step is a move with the diagnostic port empty at its start. -/
theorem step_next_iff {s t : State} :
    step s = .next t ↔ s.cfg.wf = true ∧ move s.beginStep = .next t := by
  unfold step
  split
  next hc => simp [hc]
  next hc => simpa using fun _ => hc

end Sys2Proof.Machine
end

