-- ==== Sys2Proof/Tests/Slice0.lean ====
section
/-! SUPPORT. Tests, with the expected results of spec/95_test_vectors.md and of the rules' worked
examples, and for every statement with hypotheses a state and operands that meet them. -/

namespace Sys2Proof.Tests

open Sys2Proof Sys2Proof.Machine

/-! ### Small states -/

/-- The reset state with these answers at the open transport. -/
def live (as : List Answer) : State := { State.reset with transport := .live as }

/-- A BSE in which the operation `i` waits for an answer, with these values answered so far. -/
def midway (i : Instr) (vs : List Word) (as : List Answer) : State :=
  { live as with cmd := latchesOf i, busy := true, seq := .running vs }

/-- A BSE in which the APRD of the running example waits for its read. -/
def waiting (as : List Answer) : State := midway (Asm.aprd 0x2000#64 0xD1F8#16) [0, 0, 0] as

/-- The reset state with this input at its head and these answers. -/
def given (input : Input) (as : List Answer) : State := { live as with inputs := [input] }

/-- A register map from (SEL1, SEL, xaddr, value) rows. -/
def regs : List (Word × Word × XAddr × Word) → RegMap
  | [] => []
  | (a, b, x, v) :: rs => (regs rs).set (regKey a b x) v

/-- The reset state at a fresh reference target (20_memory.md R67) with a command presented. -/
def fixture (rs : List (Word × Word × XAddr × Word)) (failAt : List Nat) (w : PortWord) : State :=
  { State.reset with
    transport := .reference ⟨regs rs, [], failAt, 0⟩
    inputs := [.command w] }

/-- A test of the state a step answers. -/
def after (s : State) (p : State → Bool) : Bool :=
  match step s with
  | .next t => p t
  | _ => false

/-- BASEPTR and DPIDR1 of programs P1 and P2. -/
def dp : List (Word × Word × XAddr × Word) :=
  [(0, 1, 0x000, 0x28), (0, 2, 0x000, 0x1001), (0, 3, 0x000, 0)]

/-- Lanes of the component of program P2. -/
def lanesP2 : List (Word × Word × XAddr × Word) :=
  [(0, 0x1FF0, 0x0F0, 0x0D), (0, 0x1FF0, 0x0F4, 0x90), (0, 0x1FF0, 0x0F8, 0x05),
    (0, 0x1FF0, 0x0FC, 0xB1)]

/-! ### WellFormed: an ill-formed term for each check -/

/-- 30_encoding.md R84. -/
theorem test_wf_opcode_zero : (Command.mk 0#4 false 0#11 0#16 0#64 0#32).legal = false := by decide
theorem test_wf_opcode_seven : (Command.mk 7#4 false 0#11 0#16 0#64 0#32).legal = false := by decide
theorem test_wf_reserved : (Command.mk 3#4 false 1#11 0#16 0#64 0#32).legal = false := by decide
theorem test_wf_hiv : (Command.mk 4#4 true 0#11 0#16 0#64 0#32).legal = false := by decide
theorem test_wf_selb_hiv : (Command.mk 1#4 true 0#11 0#16 0#64 0#32).legal = true := by decide

/-- 00_scope.md R10: readings B and C of 90_conflicts.md C1 collide, reading D does not. -/
theorem test_wf_cfg_reading_b : { Cfg.default with apBankLoMask := 0x0F00#16 }.wf = false := by
  decide
theorem test_wf_cfg_reading_c : { Cfg.default with apBankHiMask := 0x0F00#16 }.wf = false := by
  decide
theorem test_wf_cfg_reading_d :
    { Cfg.default with apBankHiMask := 0x0F00#16, apBankLoMask := 0x000F#16 }.wf = true := by decide
theorem test_wf_cfg_masks : { Cfg.default with apBankLoMask := 0xF000#16 }.wf = false := by decide
theorem test_wf_cfg_preamble : { Cfg.default with cidPreamble := 0xB105900D#32 }.wf = false := by
  decide
theorem test_wf_cfg_class_mask : { Cfg.default with cidClassMask := 0x0000B000#32 }.wf = false := by
  decide
theorem test_wf_cfg_class_shift : { Cfg.default with cidClassShift := 11#5 }.wf = false := by decide
theorem test_wf_cfg_base_mask :
    { Cfg.default with baseAddressMask := 0xFFFFFFFFFFFFF001#64 }.wf = false := by decide
theorem test_wf_cfg_default : Cfg.default.wf = true := by decide

/-- 93_implementation_defined.md U16. -/
theorem test_step_refuses_cfg : (match step { State.reset with
    cfg := { Cfg.default with apBankLoMask := 0x0F00#16 } } with
    | .refused r => r == .illFormedCfg
    | _ => false) = true := by decide

/-! ### Decoding: words of 95_test_vectors.md section 2.6 -/

theorem test_decode_selb : decode 0x1800D1F8000000010000200000000000#128 =
    .ok (.selb true 0xD1F8#16 0x0000000100002000#64 0#32) := by decide
theorem test_decode_selb_low : decode 0x1000D1F8000000010000200000000000#128 =
    .ok (.selb false 0xD1F8#16 0x0000000100002000#64 0#32) := by decide
theorem test_decode_rdbase : decode 0x20000000000000000000000000000000#128 =
    .ok (.rdbase 0#16 0#64 0#32) := by decide
theorem test_decode_init : decode 0x30000000000000000000000000000000#128 =
    .ok (.init 0#16 0#64 0#32) := by decide
theorem test_decode_aprd : decode 0x4000D1F80000000100002000FFFFFFFF#128 =
    .ok (.aprd 0xD1F8#16 0x0000000100002000#64 0xFFFFFFFF#32) := by decide
theorem test_decode_apwr : decode 0x5000FFFFFFFFFFFFFFFFF000FFFFFFFF#128 =
    .ok (.apwr 0xFFFF#16 0xFFFFFFFFFFFFF000#64 0xFFFFFFFF#32) := by decide
theorem test_decode_probe : decode 0x60000000000000020000400000000007#128 =
    .ok (.probe 0#16 0x0000000200004000#64 7#32) := by decide
theorem test_decode_zero : decode 0#128 = .error .opCode := by decide
theorem test_decode_seven : decode 0x70000000000000000000000000000000#128 = .error .opCode := by
  decide
theorem test_decode_fifteen : decode 0xF0000000000000000000000000000000#128 = .error .opCode := by
  decide
theorem test_decode_rsv_low : decode 0x30010000000000000000000000000000#128 =
    .error .reservedBits := by decide
theorem test_decode_rsv_high : decode 0x34000000000000000000000000000000#128 =
    .error .reservedBits := by decide
theorem test_decode_hiv : decode 0x4800D1F8000000010000200000000000#128 =
    .error .hivOutsideSelb := by decide
theorem test_encode_apwr : encode (Asm.apwr 0x0000000100002000#64 0xD104#16 0xCAFEF00D#32) =
    0x5000D1040000000100002000CAFEF00D#128 := by decide
theorem test_table_word : decodeTableWord 128 0x10000000000000000000000200000000 =
    some (Asm.seldp 2#4) := by decide

/-! ### Datapath: vectors of 95_test_vectors.md sections 2.1 to 2.6 -/

theorem test_selval : selVal Cfg.default 0x00002000#32 0xD1F8#16 = 0x00002DF0#32 := by decide
theorem test_selval_overlap : selVal Cfg.default 0x00002A50#32 0xD1F8#16 = 0x00002FF0#32 := by
  decide
theorem test_selval_top : selVal Cfg.default 0x80000000#32 0x8080#16 = 0x80000880#32 := by decide
theorem test_bankof : bankOf Cfg.default 0x1E2C#16 = 0x1020#16 := by decide
theorem test_xaddr : xaddrOf 0x1E2C#16 = 0xE2C#12 := by decide
theorem test_combine : combine64 0xDEADBEEF#32 0x00000001#32 = 0x00000001DEADBEEF#64 := by decide
theorem test_combine_top : combine64 0x80000000#32 0x80000000#32 = 0x8000000080000000#64 := by decide
theorem test_fits : baseFits 0x000000FFFFFFFFFF#64 40 = true := by decide
theorem test_too_wide : baseFits 0x0000010000000001#64 40 = false := by decide
theorem test_fits_64 : baseFits 0xFFFFFFFFFFFFFFFF#64 64 = true := by decide
theorem test_canon : baseCanon Cfg.default 0x0000000000001001#64 = 0x0000000000001000#64 := by decide
theorem test_width_bit7 : widthOf Cfg.default 0x000000A8#32 = 40#32 := by decide
theorem test_width_31 : widthSupported 31#32 = false := by decide
theorem test_width_65 : widthSupported 65#32 = false := by decide
theorem test_lane_offsets : [0, 1, 2, 3].map (laneOff Cfg.default) =
    [0xF0F0#16, 0xF0F4#16, 0xF0F8#16, 0xF0FC#16] := by decide
theorem test_cidr : cidrAssemble 0xFFFFFF34#32 0xABCD1256#32 0x00000178#32 0x8000009A#32 =
    0x9A785634#32 := by decide
theorem test_preamble : cidrPreambleOk Cfg.default 0xB105F00D#32 = true := by decide
theorem test_preamble_lane1 : cidrPreambleOk Cfg.default 0xB105910D#32 = false := by decide
theorem test_class : cidrClass Cfg.default 0xB105900D#32 = 9#4 := by decide
theorem test_response_word :
    Response.word ⟨false, 5#4, 9#4, 40#7, 0x1000#64, 0xB105900D#32⟩ =
      0x2CA800000000000000001000B105900D#128 := by decide
theorem test_diag_word : diagWord .invalidBase .eBaseTooWide 0x0000000100001001#64 0#32 =
    0x23000000000000010000100100000000#128 := by decide

/-! ### One step each: programs of 95_test_vectors.md section 3, and other rules' examples -/

/-- P7 command 7: three writes. -/
theorem test_selb_hi : after (fixture [] [] 0x1800D1F8000000010000200000000000#128) (fun t =>
    trace t.log == [.xfer (.write 0x008 0x00000005) (.ok 0), .xfer (.write 0x004 0x00000001) (.ok 0),
      .xfer (.write 0x008 0x00002DF0) (.ok 0)] &&
    t.rsp.word == 0x80000000000000000000000000000000#128) = true := by decide

/-- P7 command 8: one write, SELECT1 as it was. -/
theorem test_selb_low : after
    { fixture [] [] 0x1000D1F8000000010000200000000000#128 with target := ⟨0, 0x77⟩ } (fun t =>
    trace t.log == [.xfer (.write 0x008 0x00002DF0) (.ok 0)] && t.target == ⟨0x2DF0, 0x77⟩) =
    true := by decide

/-- P7 command 5 (S2). -/
theorem test_rdbase : after (fixture [(0, 2, 0x000, 0xDEADBEEF), (0, 3, 0x000, 1)] []
    0x20000000000000000000000000000000#128) (fun t =>
    t.rsp.word == 0x8000000000000001DEADBEEF00000000#128) = true := by decide

/-- P6, second run, shape: the second read fails and the first is not reported. -/
theorem test_rdbase_fails : after (fixture [(0, 2, 0x000, 0xDEADBEEF)] [3]
    0x20000000000000000000000000000000#128) (fun t =>
    t.rsp.word == 0x08000000000000000000000000000000#128 && (trace t.log).length == 4) =
    true := by decide

/-- P1 (S6): the preamble mismatch, its two diagnostics and its response. -/
theorem test_init_mismatch : after (fixture (dp ++ [(0, 0x1FF0, 0x0F0, 0xFFFFFF34),
      (0, 0x1FF0, 0x0F4, 0xABCD1256), (0, 0x1FF0, 0x0F8, 0x00000178), (0, 0x1FF0, 0x0FC, 0x8000009A)])
    [] 0x30000000000000000000000000000000#128) (fun t =>
    t.log.filter Event.isDiag == [.diag 0x10000000000000000000000000000028#128,
      .diag 0x34000000000000000000100000000000#128] &&
    t.rsp.word == 0x20280000000000000000000000000000#128 && (trace t.log).length == 22 &&
    t.target == ⟨0x1FF0, 0⟩ && t.addrWidth == 40#7 && t.v6Bound && t.widthValid) = true := by decide

/-- 30_encoding.md R91, 60_exceptions.md R224: the port presents both diagnostics of P1 once, and is
quiet in a step that only waits. -/
theorem test_diag_port : after (fixture dp [] 0x30000000000000000000000000000000#128) (fun t =>
    t.diagValid && t.diagOut == [0x10000000000000000000000000000028#128,
      0x34000000000000000000100000000000#128]) = true := by decide
theorem test_diag_port_quiet : after { given .quiet [.silent false] with
      cmd := latchesOf Asm.init, busy := true, seq := .running [0, 0x28],
      diagOut := [0x10000000000000000000000000000028#128] } (fun t =>
    t.busy && !t.diagValid && t.xReqValid) = true := by decide

/-- P2 command 1 (S8): the preamble matches. -/
theorem test_init_match : after (fixture (dp ++ lanesP2) [] 0x30000000000000000000000000000000#128)
    (fun t => t.rsp.word == 0x2CA800000000000000001000B105900D#128 && !t.busy) = true := by decide

/-- P3, first run (S9): the prober is never entered. -/
theorem test_init_invalid : after (fixture [(0, 1, 0x000, 0x28), (0, 2, 0x000, 0x1000)] []
    0x30000000000000000000000000000000#128) (fun t =>
    t.rsp.word == 0x10280000000000000000000000000000#128 && (trace t.log).length == 6 &&
    t.target == ⟨3, 0⟩) = true := by decide

/-- P6, third run: the bind precedes the first transaction. -/
theorem test_init_fails_at_once : after (fixture [] [0] 0x30000000000000000000000000000000#128)
    (fun t => t.rsp.word == 0x08000000000000000000000000000000#128 && t.v6Bound && !t.widthValid) =
    true := by decide

/-- P6, first run: the third write fails and the read is not issued. -/
theorem test_aprd_fails : after (fixture [] [2] 0x4000D1F8000000010000200000000000#128) (fun t =>
    t.rsp.word == 0x08000000000000000000000000000000#128 && (trace t.log).length == 3 &&
    t.target == ⟨5, 1⟩) = true := by decide

/-- Extremes, the overlap case of 43_ap_access.md R177. -/
theorem test_aprd_overlap : after
    (fixture [(0, 0x2FF0, 0x1F8, 0x12345678)] [] 0x4000D1F80000000000002A5000000000#128) (fun t =>
    t.rsp.word == 0x80000000000000000000000012345678#128) = true := by decide

/-- P5 command 1: what the target records. -/
theorem test_apwr : after (fixture [] [] 0x5000D1040000000100002000CAFEF00D#128) (fun t =>
    match t.transport with
    | .reference r => r.wlog == [⟨0x1, 0x2D00, 0x104, 0xCAFEF00D⟩]
    | _ => false) = true := by decide

/-- Extremes, the all-ones APWR. -/
theorem test_apwr_extreme : after (fixture [] [] 0x5000FFFFFFFFFFFFFFFFF000FFFFFFFF#128) (fun t =>
    match t.transport with
    | .reference r => r.wlog == [⟨0xFFFFFFFF, 0xFFFFFFF0, 0xFFF, 0xFFFFFFFF⟩]
    | _ => false) = true := by decide

/-- P7 command 9. -/
theorem test_probe_match : after (fixture lanesP2 [] 0x60000000000000000000100000000000#128) (fun t =>
    t.rsp.word == 0x2C8000000000000000001000B105900D#128 && (trace t.log).length == 16) = true := by
  decide

/-- P7 command 10. -/
theorem test_probe_mismatch : after (fixture [(2, 0x4FF0, 0x0F0, 0x34), (2, 0x4FF0, 0x0F4, 0x56),
      (2, 0x4FF0, 0x0F8, 0x78), (2, 0x4FF0, 0x0FC, 0x9A)] []
    0x60000000000000020000400000000007#128) (fun t =>
    t.log.filter Event.isDiag == [.diag 0x34000000000000020000400000000007#128] &&
    t.rsp.word == 0x20000000000000000000000000000000#128) = true := by decide

/-- 60_exceptions.md R218: the command latches keep the command before the illegal one. -/
theorem test_illegal_latches : after { fixture [] [] 0x38000000000000000000000000000000#128 with
      cmd := latchesOf (Asm.apwr 0x2000#64 0xD104#16 7#32) } (fun t =>
    t.cmd == latchesOf (Asm.apwr 0x2000#64 0xD104#16 7#32) && t.rsp.reason == 7#4) = true := by decide

/-- P7 command 3: an illegal INIT does not bind. -/
theorem test_illegal : after (fixture [] [] 0x30010000000000000000000000000000#128) (fun t =>
    t.rsp.word == 0x38000000000000000000000000000000#128 && !t.v6Bound && trace t.log == []) =
    true := by decide

/-- 70_reset_and_hazards.md R242: a reset between two transactions of an APRD. -/
theorem test_reset_in_flight : after { midway (Asm.aprd 0x2000#64 0xD1F8#16) [0] [] with
      inputs := [.rst false], target := ⟨5, 9⟩ } (fun t =>
    !t.busy && t.target == ⟨5, 9⟩ && responses t.log == 0) = true := by decide

/-- 20_memory.md R52: a late answer; the sequencer goes on with the read. -/
theorem test_resume : after { waiting [.ok 0xAB] with reqTaken := true, waits := 3 } (fun t =>
    !t.busy && !t.reqTaken && t.rsp.word == 0x800000000000000000000000000000AB#128) = true := by decide

/-- 30_encoding.md R91: a request the transport takes is presented no longer, and stays outstanding. -/
theorem test_taken : after (waiting [.silent true]) (fun t =>
    t.busy && !t.xReqValid && t.outstanding == some (.access, .read 0x1F8)) = true := by decide

/-! ### Witnesses: for every statement with hypotheses, a case that meets them all -/

/-- A BSE whose response the host has not taken. -/
def responding : State := { State.reset with busy := true, seq := .responding, hostReady := false }

/-- The answers of a base-pointer reader on a pointer at 0x1000. -/
def base1001 : List Answer := okBase 0 0x1001 0 0

/-- The lanes of a component of class 9. -/
def lanes9 : List Answer :=
  okLane 0 0 0 0x0D ++ okLane 0 0 0 0x90 ++ okLane 0 0 0 0x05 ++ okLane 0 0 0 0xB1

theorem witness_DecodeInvertsEncode : (Asm.selb 0x2000#64 0xD1F8#16 true).wellFormed = true := by
  decide

theorem witness_EncodeInvertsDecode :
    decode 0x20000000000000000000000000000000#128 = .ok Asm.rdbase := by decide

theorem witness_DecodeRejects_each :
    decode 0x0FFF0000000000000000000000000000#128 = .error .opCode ∧
    decode 0x7000000000000000000000000000000F#128 = .error .opCode ∧
    decode 0x64000000000000000000000000000000#128 = .error .reservedBits ∧
    decode 0x28000000000000000000000000000000#128 = .error .hivOutsideSelb ∧
    decode 0x68000000000000000000000000000000#128 = .error .hivOutsideSelb := by decide

theorem witness_SelValKeepsTheAddress_bank :
    bankOf Cfg.default 0xD1F8#16 = bankOf Cfg.default 0xDEF7#16 ∧
    0xD1F8#16 &&& 0xF0F0#16 = 0xDEF7#16 &&& 0xF0F0#16 := by decide

theorem witness_SelValKeepsTheAddress_injective :
    0xFFFFF00F#32 &&& 0x00000FF0#32 = 0#32 ∧
    selVal Cfg.default 0xFFFFF00F#32 0xFFFF#16 = selVal Cfg.default 0xFFFFF00F#32 0xF0F0#16 := by
  decide

theorem witness_OffsetForSelects : (0xFFFFFFFFFFFFF00F#64 : Addr).extractLsb' 4 8 = 0#8 := by decide

theorem witness_BaseFits_63 : baseFits 0x7FFFFFFFFFFFFFFF#64 63 = true ∧
    baseFits 0x8000000000000000#64 63 = false ∧ (63 : Nat) ≤ 63 := by decide

theorem witness_BaseFits_64 : baseFits 0xFFFFFFFFFFFFFFFF#64 64 = true ∧ (64 : Nat) ≥ 64 := by decide

theorem witness_PreambleTest : Cfg.default.wf = true ∧
    cidrPreambleOk Cfg.default 0xB105000D#32 = true ∧
    cidrPreambleOk Cfg.default 0xB105F00D#32 = true := by decide

theorem witness_StepRuns : (given (.command (encode Asm.init)) []).cfg.wf = true ∧
    (given (.command (encode Asm.init)) []).busy = false ∧
    (given (.command (encode Asm.init)) []).inputs = .command (encode Asm.init) :: [] ∧
    decode (encode Asm.init) = .ok Asm.init := by decide

theorem witness_CommandWaits : responding.busy = true ∧
    ∃ t, step { responding with inputs := [.command (encode Asm.init)] } = .next t :=
  ⟨rfl, _, rfl⟩

theorem witness_IllegalWord (w : PortWord) : (given (.command w) []).cfg.wf = true ∧
    (given (.command w) []).busy = false ∧ (given (.command w) []).inputs = .command w :: [] :=
  ⟨(by decide : Cfg.default.wf = true), rfl, rfl⟩

theorem witness_IllegalWord_each :
    (0x00000000000000000000000000000000#128 : PortWord).extractLsb' 124 4 = 0x0#4 ∧
    0x7#4 ≤ (0x70000000000000000000000000000000#128 : PortWord).extractLsb' 124 4 ∧
    0x7#4 ≤ (0xF0000000000000000000000000000000#128 : PortWord).extractLsb' 124 4 ∧
    (0x64000000000000000000000000000000#128 : PortWord).extractLsb' 112 11 ≠ 0#11 ∧
    (0x68000000000000000000000000000000#128 : PortWord).getLsbD 123 = true := by decide

theorem witness_SelbWithExtension : (live [.ok 1, .ok 2, .ok 3]).busy = false ∧
    (live [.ok 1, .ok 2, .ok 3]).transport = .live (.ok 1 :: .ok 2 :: .ok 3 :: []) :=
  ⟨rfl, rfl⟩

theorem witness_SelbWithoutExtension_and_Seldp : (live [.ok 1]).busy = false ∧
    (live [.ok 1]).transport = .live (.ok 1 :: []) := ⟨rfl, rfl⟩

theorem witness_Rdbase : (live base1001).busy = false ∧
    (live base1001).transport = .live (okBase 0 0x1001 0 0 ++ []) := ⟨rfl, rfl⟩

theorem witness_Aprd_and_Apwr : (live (okLane 1 2 3 4)).busy = false ∧
    (live (okLane 1 2 3 4)).transport = .live (okLane 1 2 3 4 ++ []) := ⟨rfl, rfl⟩

theorem witness_ApAccessFails_first : (live [.err true]).busy = false ∧
    (live [.err true]).transport = .live (.err true :: []) := ⟨rfl, rfl⟩

theorem witness_ApAccessFails_second : (live [.ok 1, .err false]).busy = false ∧
    (live [.ok 1, .err false]).transport = .live (.ok 1 :: .err false :: []) := ⟨rfl, rfl⟩

theorem witness_ApAccessFails_third : (live [.ok 1, .ok 2, .err true]).busy = false ∧
    (live [.ok 1, .ok 2, .err true]).transport = .live (.ok 1 :: .ok 2 :: .err true :: []) :=
  ⟨rfl, rfl⟩

theorem witness_ApAccessFails_fourth : (live [.ok 1, .ok 2, .ok 3, .err false]).busy = false ∧
    (live [.ok 1, .ok 2, .ok 3, .err false]).transport =
      .live (.ok 1 :: .ok 2 :: .ok 3 :: .err false :: []) := ⟨rfl, rfl⟩

theorem witness_ProbeMatch : (live lanes9).busy = false ∧
    (live lanes9).transport = .live (okLane 0 0 0 0x0D ++ okLane 0 0 0 0x90 ++ okLane 0 0 0 0x05 ++
      okLane 0 0 0 0xB1 ++ []) ∧
    cidrPreambleOk Cfg.default (cidrAssemble 0x0D 0x90 0x05 0xB1) = true :=
  ⟨rfl, rfl, by decide⟩

theorem witness_ProbeMismatch :
    (live (okLane 0 0 0 0x34 ++ okLane 0 0 0 0x56 ++ okLane 0 0 0 0x78 ++ okLane 0 0 0 0x9A)).busy = false ∧
    cidrPreambleOk Cfg.default (cidrAssemble 0x34 0x56 0x78 0x9A) = false :=
  ⟨rfl, by decide⟩

theorem witness_InitBinds : State.reset.busy = false ∧ ∃ t, exec Asm.init State.reset = .next t :=
  ⟨rfl, _, rfl⟩

theorem witness_InitUnsupportedWidth : (live [.ok 0, .ok 0x1F]).busy = false ∧
    (live [.ok 0, .ok 0x1F]).transport = .live (.ok 0 :: .ok 0x1F :: []) ∧
    (0x1F#32 &&& Cfg.default.widthMask).toNat < 32 ∧
    64 < (0x41#32 &&& Cfg.default.widthMask).toNat := ⟨rfl, rfl, by decide, by decide⟩

theorem witness_InitInvalidBase :
    (live (.ok 0 :: .ok 0x28 :: okBase 0 0x1000 0 0x100)).busy = false ∧
    widthSupported (widthOf Cfg.default 0x28) = true ∧
    (combine64 0x1000 0x100).getLsbD 0 = false ∧ baseFits (combine64 0x1000 0x100) 40 = false :=
  ⟨rfl, by decide, by decide, by decide⟩

theorem witness_InitBaseTooWide :
    (live (.ok 0 :: .ok 0x20 :: okBase 0 0x1001 0 1)).busy = false ∧
    widthSupported (widthOf Cfg.default 0x20) = true ∧
    (combine64 0x1001 1).getLsbD 0 = true ∧
    2 ^ (widthOf Cfg.default 0x20).toNat ≤ (combine64 0x1001 1).toNat :=
  ⟨rfl, by decide, by decide, by decide⟩

theorem witness_InitProbes : (live (.ok 0 :: .ok 0x40 :: base1001 ++ lanes9)).busy = false ∧
    widthSupported (widthOf Cfg.default 0x40) = true ∧ baseValid (combine64 0x1001 0) = true ∧
    baseFits (combine64 0x1001 0) (widthOf Cfg.default 0x40).toNat = true ∧
    cidrPreambleOk Cfg.default (cidrAssemble 0x0D 0x90 0x05 0xB1) = true :=
  ⟨rfl, by decide, by decide, by decide, by decide⟩

theorem witness_InitMismatch : (live (.ok 0 :: .ok 0x20 :: base1001)).busy = false ∧
    widthSupported (widthOf Cfg.default 0x20) = true ∧ baseValid (combine64 0x1001 0) = true ∧
    baseFits (combine64 0x1001 0) (widthOf Cfg.default 0x20).toNat = true ∧
    cidrPreambleOk Cfg.default (cidrAssemble 0 0 0 0) = false :=
  ⟨rfl, by decide, by decide, by decide, by decide⟩

theorem witness_TransportFailure : ∃ t, exec Asm.rdbase (live [.ok 0, .err false]) = .next t ∧
    t.log.any Event.failed = true := ⟨_, rfl, by decide⟩

theorem witness_TransportFailure_late : ∃ t, (waiting [.err false]).resume = some t ∧
    t.log.any Event.failed = true := ⟨_, rfl, by decide⟩

theorem witness_OnlyInitWrites : (Asm.rdbase).command.op ≠ 3#4 ∧
    ∃ t, exec Asm.rdbase (live base1001) = .next t := ⟨by decide, _, rfl⟩

theorem witness_OnlyInitWrites_later : (Asm.aprd 0x2000#64 0xD1F8#16).command.op ≠ 3#4 ∧
    (waiting [.ok 7]).latched = .ok (Asm.aprd 0x2000#64 0xD1F8#16) ∧
    ∃ t, (waiting [.ok 7]).resume = some t := ⟨by decide, by decide, _, rfl⟩

theorem witness_OnlyInitAndProbe : (Asm.aprd 0x2000#64 0xD1F8#16).command.op ≠ 3#4 ∧
    (Asm.aprd 0x2000#64 0xD1F8#16).command.op ≠ 6#4 := by decide

theorem witness_InitRecords_later : (midway Asm.init [0] [.ok 0x28, .err true]).latched =
      .ok Asm.init ∧
    ∃ t, (midway Asm.init [0] [.ok 0x28, .err true]).resume = some t ∧ t.addrWidth = 40#7 :=
  ⟨by decide, _, rfl, by decide⟩

theorem witness_InitRecords_records : ∃ t, exec Asm.init (live [.ok 0, .ok 0x28, .err true]) =
    .next t ∧ t.widthValid = true ∧ t.addrWidth = 40#7 := ⟨_, rfl, by decide, by decide⟩

theorem witness_InitRecords_keeps : ∃ t, exec Asm.init (live [.err true]) = .next t ∧
    t.widthValid = false ∧ t.addrWidth = 0#7 := ⟨_, rfl, by decide, by decide⟩

theorem witness_InitAndProbeNeverSucceed : (Asm.probe 0x1000 0).command.op = 6#4 ∧
    ∃ t, exec (Asm.probe 0x1000 0) (live lanes9) = .next t ∧ t.seq = .idle :=
  ⟨by decide, _, rfl, by decide⟩

theorem witness_Runs_later :
    ∃ t, (midway (Asm.probe 0x1000 0) [0, 0, 0, 0x0D, 0, 0, 0, 0x90, 0, 0, 0, 0x05, 0, 0, 0]
      [.ok 0xB1]).Runs (Asm.probe 0x1000 0) t ∧ t.seq = .idle ∧ t.rsp.reason = 5#4 :=
  ⟨_, .inr ⟨fun h => h _ rfl, by decide, rfl⟩, by decide, by decide⟩

theorem witness_AtMostTwentyTwo : ∃ t, (waiting [.silent false]).seq = .running [0, 0, 0] ∧
    (waiting [.silent false]).resume = some t ∧ t.seq = .running [0, 0, 0] := ⟨_, rfl, rfl, rfl⟩

theorem witness_ResponseFields : ∃ t, exec Asm.rdbase (live [.err true]) = .next t ∧
    t.seq = .idle ∧ t.rsp.ok = false ∧ t.rsp.reason ≠ 5#4 :=
  ⟨_, rfl, by decide, by decide, by decide⟩

theorem witness_TraceDepends : ∃ t₁ t₂, exec Asm.init (live (List.replicate 22 (.ok 0x28))) =
    .next t₁ ∧ exec Asm.init { live (List.replicate 22 (.ok 0x28)) with
      addrWidth := 33#7, target := ⟨7, 7⟩ } = .next t₂ ∧
    22 ≤ (List.replicate 22 (Answer.ok 0x28)).length := ⟨_, _, rfl, rfl, by decide⟩

theorem witness_Latency : ∃ u, exec Asm.rdbase (live ([.ok 0] ++ .silent false :: .ok 7 :: [])) = .next u ∧
    u.seq = .running [0] := ⟨_, rfl, by decide⟩

theorem witness_SilentTransport : (live [.silent false]).busy = false ∧
    (waiting [.silent true]).outstanding.isSome = true ∧
    (waiting [.silent true]).transport = .live (.silent true :: []) := by decide

theorem witness_NonStoring : ∃ t, (Asm.rdbase).command.op ≠ 5#4 ∧
    exec Asm.rdbase (fixture dp [] 0#128) = .next t := ⟨_, by decide, rfl⟩

theorem witness_ApwrLeavesOthers : ∃ t, exec (Asm.apwr 0x1000 0xD010 9) (fixture dp [] 0#128) =
    .next t ∧ Cfg.default.xaddrSelect1 ≠ Cfg.default.xaddrSelect ∧
    regKey 0 1 0x000 ≠ regKey (hi32 0x1000) (selVal Cfg.default (lo32 0x1000) 0xD010)
      (xaddrOf 0xD010) := ⟨_, rfl, by decide, by decide⟩

theorem witness_ReadBack : (fixture dp [] 0#128).busy = false ∧
    (fixture dp [] 0#128).hostReady = true ∧ (regs dp).wf = true ∧
    Cfg.default.xaddrSelect1 ≠ Cfg.default.xaddrSelect ∧
    xaddrOf 0xD010 ≠ Cfg.default.xaddrSelect ∧ xaddrOf 0xD010 ≠ Cfg.default.xaddrSelect1 ∧
    ∃ t, exec (Asm.apwr 0x1000 0xD010 9) (fixture dp [] 0#128) = .next t ∧
      ∃ u, exec (Asm.aprd 0x1000 0xD010) t = .next u :=
  ⟨rfl, rfl, by decide, by decide, by decide, by decide, _, rfl, _, rfl⟩

theorem witness_Invariant_waiting : (waiting [.ok 7]).outstanding.isSome = true ∧
    ∃ t, step (waiting [.ok 7]) = .next t ∧ t.busy = false := ⟨by decide, _, rfl, by decide⟩

theorem witness_Invariant : (waiting [.ok 7]).Inv where
  cfgWf := by decide
  widthRange := by decide
  widthBound := by decide
  widthUnlearned := by decide
  busySeq := by decide
  taken := fun h => absurd h (by decide)
  position := fun _ _ => by decide
  initBound := fun _ _ h => absurd h (by decide)
  reasonCode := by decide
  regsWf := fun _ h => nomatch h

theorem witness_Accounted :
    ({ waiting [.ok 7] with log := [.accept (encode (Asm.aprd 0x2000#64 0xD1F8#16))] }).Accounted ∧
    ∃ t, step { waiting [.ok 7] with log := [.accept (encode (Asm.aprd 0x2000#64 0xD1F8#16))] } =
      .next t := ⟨rfl, _, rfl⟩

theorem witness_SessionFlags_and_Latches : (waiting [.silent false]).busy = true ∧
    (∃ t, step (waiting [.silent false]) = .next t ∧ t.seq = .running [0, 0, 0]) ∧
    ∀ landed rest, (waiting [.silent false]).inputs ≠ .rst landed :: rest :=
  ⟨rfl, ⟨_, rfl, by decide⟩, fun _ _ h => nomatch h⟩

theorem witness_SessionFlags_set :
    ({ waiting [.ok 7] with v6Bound := true, widthValid := true, addrWidth := 40#7 }).v6Bound = true ∧
    ({ waiting [.ok 7] with v6Bound := true, widthValid := true, addrWidth := 40#7 }).widthValid =
      true ∧
    ∃ t, step { waiting [.ok 7] with v6Bound := true, widthValid := true, addrWidth := 40#7 } =
      .next t ∧ t.busy = false := ⟨rfl, rfl, _, rfl, by decide⟩

theorem witness_DiagnosticsOnce : ∃ t, step { midway Asm.init [0] [.ok 0x28, .silent false] with
      diagOut := [0#128] } = .next t ∧ t.busy = true ∧
    t.diagOut = [0x10000000000000000000000000000028#128] := ⟨_, rfl, by decide, by decide⟩

theorem witness_StepKeepsConfiguration : ∃ t, step State.reset = .next t := ⟨_, rfl⟩

theorem witness_ResponseWaits_presented : ∃ t,
    exec Asm.rdbase { live base1001 with hostReady := false } = .next t ∧ t.seq = .responding :=
  ⟨_, rfl, by decide⟩

theorem witness_ResponseWaits_taken : responding.cfg.wf = true ∧ responding.busy = true ∧
    responding.seq = .responding ∧
    { responding with inputs := [.quiet] }.inputs = .quiet :: [] := by decide

theorem witness_Reset : ({ waiting [] with inputs := [.rst true] }).cfg.wf = true ∧
    ∃ t, step { waiting [] with inputs := [.rst true] } = .next t := ⟨by decide, _, rfl⟩

/-- The SELECT1 write of an APRD is outstanding at the reset, and lands all the same. -/
theorem witness_Reset_landed :
    (midway (Asm.aprd 0x500002000#64 0xD1F8#16) [0] []).outstanding =
      some (.select1, .write 0x004 5) ∧
    ∃ t, step { midway (Asm.aprd 0x500002000#64 0xD1F8#16) [0] [] with
      inputs := [.rst true], target := ⟨5, 9⟩ } = .next t ∧ t.target = ⟨5, 5⟩ :=
  ⟨by decide, _, rfl, by decide⟩

end Sys2Proof.Tests
end

section
/-! SUPPORT. The scripts' effect on the session registers (10_state.md R23 to R25): which of them a
script may write, and what is left of it once some answers are in. -/

namespace Sys2Proof.Machine

/-- What a script may write: V6_BOUND only if `bind` holds, ADDR_WIDTH only with values that satisfy
`width`. -/
def Script.WritesOnly (bind : Prop) (width : BitVec 7 → Prop) : Script → Prop
  | .xfer _ _ k => ∀ v, (k v).WritesOnly bind width
  | .bindV6 k => bind ∧ k.WritesOnly bind width
  | .recordWidth w k => width w ∧ k.WritesOnly bind width
  | .readWidth k => ∀ w, (k w).WritesOnly bind width
  | .diag _ k => k.WritesOnly bind width
  | .fail _ => True
  | .ret .. => True

/-- A script that writes no session register. -/
abbrev Script.Sessionless (p : Script) : Prop := p.WritesOnly False fun _ => False

/-- The widths INIT records (42_dp_init.md R152, R153). -/
def SupportedWidth (w : BitVec 7) : Prop := 32 ≤ w.toNat ∧ w.toNat ≤ 64

/-- The session registers of `t` come from those of `s` by a script that writes only what
`Script.WritesOnly` allows. -/
def State.SessionFrom (bind : Prop) (width : BitVec 7 → Prop) (s t : State) : Prop :=
  (t.addrWidth = s.addrWidth ∧ t.widthValid = s.widthValid ∨
    t.widthValid = true ∧ width t.addrWidth) ∧
  (t.v6Bound = s.v6Bound ∨ bind ∧ t.v6Bound = true)

/-! ### What running a script writes -/

theorem Script.run_session {bind : Prop} {width : BitVec 7 → Prop} {p : Script}
    (hp : p.WritesOnly bind width) (s : State) : s.SessionFrom bind width (p.run s) := by
  induction p generalizing s with
  | xfer role r k ih =>
    cases h : s.answer r with
    | ok v =>
      rw [Script.run_xfer_ok h]
      have hk := ih _ (hp (r.value v)) ((s.answered role r (.ok v)).advance (r.value v))
      simpa [State.SessionFrom] using hk
    | err l => simp [Script.run_xfer_err h, State.SessionFrom]
    | silent taken => simp [Script.run_xfer_silent h, State.SessionFrom]
  | bindV6 k ih =>
    obtain ⟨hw, hb⟩ := ih hp.2 s.bindV6
    exact ⟨hw, .inr ⟨hp.1, hb.elim id And.right⟩⟩
  | recordWidth w k ih =>
    obtain ⟨⟨hw, hv⟩ | hw, hb⟩ := ih hp.2 (s.recordWidth w)
    · exact ⟨.inr ⟨hv, hw ▸ hp.1⟩, hb⟩
    · exact ⟨.inr hw, hb⟩
  | readWidth k ih => exact ih _ (hp _) s
  | diag w k ih => exact ih hp (s.emit w)
  | fail q => simp [Script.run, State.SessionFrom]
  | ret ok q cls a d => simp [Script.run, State.SessionFrom]

theorem State.SessionFrom.of_sessionless {s t : State}
    (h : s.SessionFrom False (fun _ => False) t) :
    t.addrWidth = s.addrWidth ∧ t.widthValid = s.widthValid ∧ t.v6Bound = s.v6Bound := by
  simpa [State.SessionFrom, and_assoc] using h

theorem Script.Sessionless.run_addrWidth {p : Script} (hp : p.Sessionless) (s : State) :
    (p.run s).addrWidth = s.addrWidth := (Script.run_session hp s).of_sessionless.1

/-- V6_BOUND and WIDTH_VALID do not fall while a script runs (10_state.md R24, R25). -/
theorem Script.run_flags (p : Script) (s : State) :
    (s.v6Bound = true → (p.run s).v6Bound = true) ∧
    (s.widthValid = true → (p.run s).widthValid = true) := by
  refine Script.run_induction
    (P := fun t => (s.v6Bound = true → t.v6Bound = true) ∧
      (s.widthValid = true → t.widthValid = true))
    (Q := fun t => (s.v6Bound = true → t.v6Bound = true) ∧
      (s.widthValid = true → t.widthValid = true))
    ?_ ?_ ?_ ?_ ?_ ?_ ?_ ?_ p s ⟨id, id⟩ <;> intros <;> simp_all

/-! ### What is left of a script -/

theorem Script.WritesOnly.after {bind : Prop} {width : BitVec 7 → Prop} {p : Script}
    (hp : p.WritesOnly bind width) (w : BitVec 7) (vs : List Word) :
    (p.after w vs).WritesOnly bind width := by
  induction p generalizing vs with
  | xfer role r k ih =>
    cases vs with
    | nil => exact hp
    | cons v vs => exact ih v (hp v) vs
  | bindV6 k ih => exact ih hp.2 vs
  | recordWidth w' k ih => exact ih hp.2 vs
  | readWidth k ih => exact ih w (hp w) vs
  | diag w' k ih => exact ih hp vs
  | fail q => trivial
  | ret ok q cls a d => trivial

theorem Script.after_append (p : Script) (w : BitVec 7) (vs us : List Word) :
    p.after w (vs ++ us) = (p.after w vs).after w us := by
  induction p generalizing vs with
  | xfer role r k ih =>
    cases vs with
    | nil => rfl
    | cons v vs => exact ih v vs
  | bindV6 k ih => exact ih vs
  | recordWidth w' k ih => exact ih vs
  | readWidth k ih => exact ih w vs
  | diag w' k ih => exact ih vs
  | fail q => rfl
  | ret ok q cls a d => rfl

/-- A script that reads ADDR_WIDTH only where it writes it no more, so that what is left of it can be
computed from the value that ADDR_WIDTH has in the end. -/
def Script.ReadsFinalWidth : Script → Prop
  | .xfer _ _ k => ∀ v, (k v).ReadsFinalWidth
  | .bindV6 k => k.ReadsFinalWidth
  | .recordWidth _ k => k.ReadsFinalWidth
  | .readWidth k => ∀ w, (k w).Sessionless
  | .diag _ k => k.ReadsFinalWidth
  | .fail _ => True
  | .ret .. => True

theorem Script.Sessionless.readsFinalWidth {p : Script} (hp : p.Sessionless) :
    p.ReadsFinalWidth := by
  induction p with
  | xfer role r k ih => exact fun v => ih v (hp v)
  | bindV6 k ih => exact hp.1.elim
  | recordWidth w k ih => exact hp.1.elim
  | readWidth k ih => exact hp
  | diag w k ih => exact ih hp
  | fail q => trivial
  | ret ok q cls a d => trivial

theorem Script.ReadsFinalWidth.after {p : Script} (hp : p.ReadsFinalWidth) (w : BitVec 7)
    (vs : List Word) : (p.after w vs).ReadsFinalWidth := by
  induction p generalizing vs with
  | xfer role r k ih =>
    cases vs with
    | nil => exact hp
    | cons v vs => exact ih v (hp v) vs
  | bindV6 k ih => exact ih hp vs
  | recordWidth w' k ih => exact ih hp vs
  | readWidth k ih => exact Script.Sessionless.readsFinalWidth (Script.WritesOnly.after (hp w) w vs)
  | diag w' k ih => exact ih hp vs
  | fail q => trivial
  | ret ok q cls a d => trivial

/-- What is left of such a script depends on ADDR_WIDTH only once nothing writes it any more. -/
theorem Script.ReadsFinalWidth.after_eq_or_sessionless {p : Script} (hp : p.ReadsFinalWidth)
    (w w' : BitVec 7) (vs : List Word) :
    p.after w' vs = p.after w vs ∨ (p.after w vs).Sessionless := by
  induction p generalizing vs with
  | xfer role r k ih =>
    cases vs with
    | nil => exact .inl rfl
    | cons v vs => exact ih v (hp v) vs
  | bindV6 k ih => exact ih hp vs
  | recordWidth _ k ih => exact ih hp vs
  | readWidth k ih => exact .inr (Script.WritesOnly.after (hp w) w vs)
  | diag _ k ih => exact ih hp vs
  | fail q => exact .inl rfl
  | ret ok q cls a d => exact .inl rfl

/-- The script is at a transaction. -/
def Script.atXfer : Script → Bool
  | .xfer .. => true
  | _ => false

/-- A script that stops in mid-run stops at a transaction, the one after the values answered. -/
theorem Script.ReadsFinalWidth.run_position {p : Script} (hp : p.ReadsFinalWidth) {s : State}
    {vs vs' : List Word} (hs : s.seq = .running vs) (ht : (p.run s).seq = .running vs') :
    ∃ us, vs' = vs ++ us ∧ (p.after (p.run s).addrWidth us).atXfer = true := by
  induction p generalizing s vs with
  | xfer role r k ih =>
    cases h : s.answer r with
    | ok v =>
      rw [Script.run_xfer_ok h] at ht ⊢
      obtain ⟨us, rfl, hx⟩ := ih _ (hp _) (vs := vs ++ [r.value v]) (by simp [State.advance, hs]) ht
      exact ⟨r.value v :: us, by simp, hx⟩
    | err l => rw [Script.run_xfer_err h, State.raiseFail_seq] at ht; split at ht <;> cases ht
    | silent taken =>
      rw [Script.run_xfer_silent h, State.wait_seq, hs] at ht
      cases ht
      exact ⟨[], by simp, rfl⟩
  | bindV6 k ih => exact ih hp (s := s.bindV6) hs ht
  | recordWidth w k ih => exact ih hp (s := s.recordWidth w) hs ht
  | readWidth k ih =>
    have hk := hp s.addrWidth
    obtain ⟨us, hus, hx⟩ := ih _ hk.readsFinalWidth hs ht
    rw [hk.run_addrWidth] at hx
    refine ⟨us, hus, ?_⟩
    rw [show (Script.readWidth k).run s = (k s.addrWidth).run s from rfl, hk.run_addrWidth]
    exact hx
  | diag w k ih => exact ih hp (s := s.emit w) hs ht
  | fail q => rw [Script.run, State.raiseFail_seq] at ht; split at ht <;> cases ht
  | ret ok q cls a d => rw [Script.run, State.answerWith_seq] at ht; split at ht <;> cases ht

/-- The same for a run that goes on from a position of the script: the new position is again at a
transaction, under the width the run left. -/
theorem Script.ReadsFinalWidth.run_after_position {p : Script} (hp : p.ReadsFinalWidth) {s : State}
    {vs vs' : List Word} (hs : s.seq = .running vs)
    (ht : ((p.after s.addrWidth vs).run s).seq = .running vs') :
    (p.after ((p.after s.addrWidth vs).run s).addrWidth vs').atXfer = true := by
  obtain ⟨us, rfl, hx⟩ := (hp.after s.addrWidth vs).run_position hs ht
  rw [Script.after_append]
  rcases hp.after_eq_or_sessionless s.addrWidth ((p.after s.addrWidth vs).run s).addrWidth vs with
    heq | hless
  · rwa [heq]
  · rw [hless.run_addrWidth] at hx ⊢
    exact hx

/-! ### The scripts of the six operations -/

section
variable {bind : Prop} {width : BitVec 7 → Prop} {c : Cfg}

@[simp] theorem selectDP_writesOnly {k : BitVec 4} {next : Script} :
    (selectDP c k next).WritesOnly bind width ↔ next.WritesOnly bind width := by
  simp [selectDP, Script.WritesOnly]

@[simp] theorem writeSelect1_writesOnly {a : Addr} {next : Script} :
    (writeSelect1 c a next).WritesOnly bind width ↔ next.WritesOnly bind width := by
  simp [writeSelect1, Script.WritesOnly]

@[simp] theorem writeSelect_writesOnly {a : Addr} {off : Offset} {next : Script} :
    (writeSelect c a off next).WritesOnly bind width ↔ next.WritesOnly bind width := by
  simp [writeSelect, Script.WritesOnly]

@[simp] theorem selectAP_writesOnly {a : Addr} {off : Offset} {next : Script} :
    (selectAP c a off next).WritesOnly bind width ↔ next.WritesOnly bind width := by
  simp [selectAP]

theorem readBase_writesOnly {k : Addr → Script} (hk : ∀ raw, (k raw).WritesOnly bind width) :
    (readBase c k).WritesOnly bind width := by
  simp [readBase, Script.WritesOnly, hk]

theorem probe_sessionless (base : Addr) (n : Word) : (probe c base n).Sessionless := by
  simp only [probe, readLane, selectAP_writesOnly, Script.WritesOnly]
  intro v0 v1 v2 v3
  unfold probeVerdict
  split <;> trivial

theorem initVerdict_sessionless (raw : Addr) : (initVerdict c raw).Sessionless := by
  unfold initVerdict
  split
  · intro w
    change (if _ then _ else _ : Script).Sessionless
    split
    · exact probe_sessionless _ _
    · trivial
  · trivial

theorem supportedWidth_of_widthSupported {x : Word} (h : widthSupported x = true) :
    SupportedWidth (x.setWidth 7) := by
  simp only [widthSupported, decide_eq_true_eq] at h
  simp only [SupportedWidth, BitVec.toNat_setWidth]
  omega

theorem Script.Sessionless.writesOnly {p : Script} (hp : p.Sessionless) :
    p.WritesOnly bind width := by
  induction p with
  | xfer role r k ih => exact fun v => ih v (hp v)
  | bindV6 k ih => exact hp.1.elim
  | recordWidth w k ih => exact hp.1.elim
  | readWidth k ih => exact fun w => ih w (hp w)
  | diag w k ih => exact ih hp
  | fail q => trivial
  | ret ok q cls a d => trivial

end

/-- What INIT does after it has recorded the width writes no session register (42_dp_init.md R154 to
R158). -/
theorem readBase_initVerdict_sessionless (c : Cfg) :
    (readBase c (initVerdict c)).Sessionless :=
  readBase_writesOnly initVerdict_sessionless

/-- INIT binds, and records no width but a supported one (42_dp_init.md R151 to R153). -/
theorem initScript_writesOnly (c : Cfg) : (initScript c).WritesOnly True SupportedWidth := by
  simp only [initScript, Script.WritesOnly, selectDP_writesOnly, true_and]
  intro v
  unfold initWidth
  split
  next h =>
    exact ⟨supportedWidth_of_widthSupported h,
      Script.Sessionless.writesOnly (readBase_initVerdict_sessionless c)⟩
  next => trivial

theorem initScript_readsFinalWidth (c : Cfg) : (initScript c).ReadsFinalWidth := by
  intro _ v
  unfold initWidth
  change (if _ then _ else _ : Script).ReadsFinalWidth
  split
  next =>
    change (readBase c (initVerdict c)).ReadsFinalWidth
    exact Script.Sessionless.readsFinalWidth (readBase_initVerdict_sessionless c)
  next => trivial

/-- No operation but INIT writes a session register (10_state.md R23 to R25). -/
theorem scriptOf_sessionless (c : Cfg) {i : Instr} (hi : i.command.op ≠ 3#4) :
    (scriptOf c i).Sessionless := by
  cases i with
  | selb hiv off addr data => cases hiv <;> simp [scriptOf, selbScript, Script.WritesOnly]
  | rdbase off addr data =>
    exact readBase_writesOnly (k := fun raw => .ret true .none 0#4 raw 0#32) fun _ => trivial
  | init off addr data => exact absurd rfl hi
  | aprd off addr data => simp [scriptOf, aprdScript, Script.WritesOnly]
  | apwr off addr data => simp [scriptOf, apwrScript, Script.WritesOnly]
  | probe off addr data => exact probe_sessionless addr data

/-- OP 3 is INIT's (30_encoding.md R82). -/
theorem eq_init_of_op {i : Instr} (hi : i.command.op = 3#4) :
    ∃ off addr data, i = .init off addr data := by
  cases i with
  | init off addr data => exact ⟨off, addr, data, rfl⟩
  | _ => simp [Instr.command] at hi

theorem scriptOf_writesOnly (c : Cfg) (i : Instr) :
    (scriptOf c i).WritesOnly True SupportedWidth := by
  by_cases hi : i.command.op = 3#4
  · obtain ⟨off, addr, data, rfl⟩ := eq_init_of_op hi
    exact initScript_writesOnly c
  · exact Script.Sessionless.writesOnly (scriptOf_sessionless c hi)

theorem scriptOf_readsFinalWidth (c : Cfg) (i : Instr) : (scriptOf c i).ReadsFinalWidth := by
  by_cases hi : i.command.op = 3#4
  · obtain ⟨off, addr, data, rfl⟩ := eq_init_of_op hi
    exact initScript_readsFinalWidth c
  · exact Script.Sessionless.readsFinalWidth (scriptOf_sessionless c hi)

end Sys2Proof.Machine
end

section
/-! SUPPORT. Accepting a command as going on with it: the state BSE starts an operation from, and what
every step can do, said once over these. -/

namespace Sys2Proof.Machine

/-! ### The operation in the latches -/

/-- The fields an operation is presented with decode to it (30_encoding.md R80 to R84). -/
theorem decode_command (i : Instr) : i.command.decode = .ok i := by
  cases i <;> simp [Instr.command, Command.decode]

/-- The code of a decoded operation is the one in the word (30_encoding.md R82). -/
theorem command_op_of_decode {c : Command} {i : Instr} (h : c.decode = .ok i) :
    i.command.op = c.op := by
  unfold Command.decode at h
  split_ifs at h with hop
  apply BitVec.eq_of_toNat_eq
  split at h <;> injection h with h <;> subst h
  case h_6 h1 h2 h3 h4 h5 =>
    simp only [imp_false] at h1 h2 h3 h4 h5
    change 6 = c.op.toNat
    omega
  all_goals simp [Instr.command, *]

theorem State.op_of_latched {s : State} {i : Instr} (h : s.latched = .ok i) :
    i.command.op = s.cmd.op := command_op_of_decode h

theorem State.latched_of_cmd {s : State} {i : Instr} (h : s.cmd = latchesOf i) :
    s.latched = .ok i := by
  have hrsv : i.command.rsv = 0#11 := by cases i <;> rfl
  rw [State.latched, h, ← decode_command i, latchesOf, ← hrsv]

/-- A running operation's next transaction is outstanding exactly where its position is at a
transaction of its script (10_state.md R27). -/
theorem State.outstanding_isSome {s : State} {vs : List Word} {i : Instr}
    (hs : s.seq = .running vs) (hl : s.latched = .ok i) :
    s.outstanding.isSome = ((scriptOf s.cfg i).after s.addrWidth vs).atXfer := by
  have hr : s.remaining = some ((scriptOf s.cfg i).after s.addrWidth vs) := by
    simp [State.remaining, hs, hl]
  rw [State.outstanding, hr]
  cases (scriptOf s.cfg i).after s.addrWidth vs <;> rfl

/-! ### Acceptance -/

/-- The state in which an accepted operation takes up its first transaction: INIT has bound before it
(42_dp_init.md R151). -/
def State.launched (s : State) (i : Instr) : State :=
  match i with
  | .init .. => (s.accept (encode i)).bindV6
  | _ => s.accept (encode i)

/-- `State.launched` is acceptance but for the bind of INIT. -/
theorem State.launched_eq (s : State) (i : Instr) : s.launched i =
    { s.accept (encode i) with v6Bound := s.v6Bound || i.command.op == 3#4 } := by
  cases i <;> simp [State.launched, State.accept, State.take, State.bindV6, Instr.command]

@[simp] theorem State.launched_cfg (s : State) (i : Instr) : (s.launched i).cfg = s.cfg := by
  simp [State.launched_eq]
@[simp] theorem State.launched_cmd (s : State) (i : Instr) :
    (s.launched i).cmd = latchesOf i := by
  simp [State.launched_eq, State.accept_encode_cmd, -State.accept_cmd]
@[simp] theorem State.launched_rsp (s : State) (i : Instr) : (s.launched i).rsp = s.rsp := by
  simp [State.launched_eq]
@[simp] theorem State.launched_addrWidth (s : State) (i : Instr) :
    (s.launched i).addrWidth = s.addrWidth := by simp [State.launched_eq]
@[simp] theorem State.launched_widthValid (s : State) (i : Instr) :
    (s.launched i).widthValid = s.widthValid := by simp [State.launched_eq]
@[simp] theorem State.launched_v6Bound (s : State) (i : Instr) :
    (s.launched i).v6Bound = (s.v6Bound || i.command.op == 3#4) := by simp [State.launched_eq]
@[simp] theorem State.launched_busy (s : State) (i : Instr) : (s.launched i).busy = true := by
  simp [State.launched_eq]
@[simp] theorem State.launched_seq (s : State) (i : Instr) :
    (s.launched i).seq = .running [] := by simp [State.launched_eq]
@[simp] theorem State.launched_hostReady (s : State) (i : Instr) :
    (s.launched i).hostReady = s.hostReady := by simp [State.launched_eq]
@[simp] theorem State.launched_inputs (s : State) (i : Instr) :
    (s.launched i).inputs = s.inputs := by simp [State.launched_eq]
@[simp] theorem State.launched_transport (s : State) (i : Instr) :
    (s.launched i).transport = s.transport := by simp [State.launched_eq]
@[simp] theorem State.launched_reqTaken (s : State) (i : Instr) :
    (s.launched i).reqTaken = false := by simp [State.launched_eq]
@[simp] theorem State.launched_log (s : State) (i : Instr) :
    (s.launched i).log = s.log ++ [.accept (encode i)] := by simp [State.launched_eq]

theorem State.launched_latched (s : State) (i : Instr) : (s.launched i).latched = .ok i :=
  State.latched_of_cmd (s.launched_cmd i)

/-- Every script has a transaction, and nothing but INIT's bind before its first (42_dp_init.md
R151). -/
theorem scriptOf_after_nil_atXfer (c : Cfg) (i : Instr) (w : BitVec 7) :
    ((scriptOf c i).after w []).atXfer = true := by
  cases i with
  | selb hiv off addr data => cases hiv <;> rfl
  | _ => rfl

theorem scriptOf_run_accept (s : State) (i : Instr) (w : BitVec 7) :
    (scriptOf s.cfg i).run (s.accept (encode i)) =
      ((scriptOf s.cfg i).after w []).run (s.launched i) := by
  cases i with
  | selb hiv off addr data => cases hiv <;> rfl
  | _ => rfl

theorem State.launched_outstanding (s : State) (i : Instr) :
    (s.launched i).outstanding.isSome = true := by
  rw [State.outstanding_isSome (s.launched_seq i) (s.launched_latched i)]
  exact scriptOf_after_nil_atXfer _ _ _

/-- A machine whose operation runs goes on with what is left of the script. -/
theorem State.resume_running {s : State} {vs : List Word} {i : Instr} (hs : s.seq = .running vs)
    (hl : s.latched = .ok i) (hx : ((scriptOf s.cfg i).after s.addrWidth vs).atXfer = true) :
    s.resume = some (((scriptOf s.cfg i).after s.addrWidth vs).run s) := by
  have hr : s.remaining = some ((scriptOf s.cfg i).after s.addrWidth vs) := by
    simp [State.remaining, hs, hl]
  unfold State.resume
  rw [hr, hs]
  cases h : (scriptOf s.cfg i).after s.addrWidth vs with
  | xfer role r k => rfl
  | _ => simp [h, Script.atXfer] at hx

/-- Accepting a command is going on from `State.launched`, so what holds of going on holds of both. -/
theorem exec_idle_iff_resume {s t : State} (hb : s.busy = false) {i : Instr} :
    exec i s = .next t ↔ (s.launched i).resume = some t := by
  rw [exec_next_iff, State.perform_idle hb, scriptOf_run_accept s i s.addrWidth,
    State.resume_running (s.launched_seq i) (s.launched_latched i)
      (scriptOf_after_nil_atXfer _ _ _)]
  simp [eq_comm]

/-! ### What going on does -/

/-- Going on offers the response again, or runs what is left of the script, which is at a transaction
and which `scriptOf` fixes. -/
theorem State.resume_cases_script {s t : State} (h : s.resume = some t) :
    s.seq = .responding ∧ t = s.offer ∨
    ∃ vs i, s.seq = .running vs ∧ s.latched = .ok i ∧
      ((scriptOf s.cfg i).after s.addrWidth vs).atXfer = true ∧
      t = ((scriptOf s.cfg i).after s.addrWidth vs).run s := by
  obtain h | ⟨vs, i, role, r, k, hs, hl, hp, rfl⟩ := State.resume_cases h
  · exact .inl h
  · exact .inr ⟨vs, i, hs, hl, by rw [hp]; rfl, by rw [hp]⟩

theorem State.resume_frame {s t : State} (h : s.resume = some t) :
    t.cfg = s.cfg ∧ t.cmd = s.cmd ∧ t.hostReady = s.hostReady ∧ t.inputs = s.inputs := by
  obtain ⟨-, rfl⟩ | ⟨vs, i, -, -, -, rfl⟩ := State.resume_cases_script h
  · simp
  · exact Script.run_frame _ s

theorem State.resume_log {s t : State} (h : s.resume = some t) : s.log <+: t.log := by
  obtain ⟨-, rfl⟩ | ⟨vs, i, -, -, -, rfl⟩ := State.resume_cases_script h
  · rw [State.offer_log]; split <;> simp
  · exact Script.run_log _ s

theorem State.resume_flags {s t : State} (h : s.resume = some t) :
    (s.v6Bound = true → t.v6Bound = true) ∧ (s.widthValid = true → t.widthValid = true) := by
  obtain ⟨-, rfl⟩ | ⟨vs, i, -, -, -, rfl⟩ := State.resume_cases_script h
  · simp
  · exact Script.run_flags _ s

/-- Going on with `i` writes the session registers as the script of `i` may. -/
theorem State.resume_session {s t : State} {i : Instr} {bind : Prop} {width : BitVec 7 → Prop}
    (hl : s.latched = .ok i) (hp : (scriptOf s.cfg i).WritesOnly bind width)
    (h : s.resume = some t) : s.SessionFrom bind width t := by
  obtain ⟨-, rfl⟩ | ⟨vs, j, -, hj, -, rfl⟩ := State.resume_cases_script h
  · simp [State.SessionFrom]
  · obtain rfl : i = j := by rw [hl] at hj; injection hj
    exact Script.run_session (hp.after _ _) s

/-- The step that accepts `i` and every step that goes on with it write the session registers as the
script of `i` may, and leave the configuration, the inputs and `rsp_ready`. -/
theorem runs_session {s t : State} {i : Instr} {bind : Prop} {width : BitVec 7 → Prop}
    (hp : ∀ c, (scriptOf c i).WritesOnly bind width) (hi : i.command.op = 3#4 → bind)
    (h : exec i s = .next t ∨ s.latched = .ok i ∧ s.resume = some t) :
    s.SessionFrom bind width t ∧ t.cfg = s.cfg ∧ t.inputs = s.inputs ∧
      t.hostReady = s.hostReady := by
  rcases h with hx | ⟨hl, hr⟩
  · cases hb : s.busy with
    | true => rw [exec_next_iff, State.perform_busy hb] at hx; simp [hx, State.SessionFrom]
    | false =>
      have hr := (exec_idle_iff_resume hb).1 hx
      obtain ⟨hwidth, hbound⟩ := State.resume_session (s.launched_latched i) (hp _) hr
      obtain ⟨hcfg, -, hready, hinp⟩ := State.resume_frame hr
      refine ⟨⟨by simpa using hwidth, ?_⟩, by simpa using hcfg, by simpa using hinp,
        by simpa using hready⟩
      by_cases hop : i.command.op = 3#4
      · exact .inr ⟨hi hop, hbound.elim (by simp [hop]) And.right⟩
      · simpa [beq_eq_false_iff_ne.2 hop] using hbound
  · obtain ⟨hcfg, -, hready, hinp⟩ := State.resume_frame hr
    exact ⟨State.resume_session hl (hp _) hr, hcfg, hinp, hready⟩

/-- The response latches are written at the end of an operation only (10_state.md R22). -/
theorem Script.run_rsp (p : Script) (s : State) : (p.run s).Ended ∨ (p.run s).rsp = s.rsp := by
  refine Script.run_induction (P := fun t => t.rsp = s.rsp)
    (Q := fun t => t.Ended ∨ t.rsp = s.rsp) ?_ ?_ ?_ ?_ ?_ ?_ ?_ ?_ p s rfl
  · intro t role r v h; simpa using h
  · intro t h; exact h
  · intro t w h; exact h
  · intro t w h; exact h
  · intro t role r l _; left; intro vs; rw [State.raiseFail_seq]; split <;> nofun
  · intro t taken h; exact .inr h
  · intro t q _; left; intro vs; rw [State.raiseFail_seq]; split <;> nofun
  · intro t ok q cls a d _; left; intro vs; rw [State.answerWith_seq]; split <;> nofun

theorem State.resume_rsp {s t : State} (h : s.resume = some t) : t.Ended ∨ t.rsp = s.rsp := by
  obtain ⟨-, rfl⟩ | ⟨vs, i, -, -, -, rfl⟩ := State.resume_cases_script h
  · simp
  · exact Script.run_rsp _ s

/-! ### What a step does -/

/-- The machine at the beginning of a step that leaves these inputs (30_encoding.md R91; log 2). -/
def State.begun (s : State) (rest : List Input) : State := { s.beginStep with inputs := rest }

@[simp] theorem State.begun_cfg (s : State) (rest : List Input) : (s.begun rest).cfg = s.cfg := rfl
@[simp] theorem State.begun_cmd (s : State) (rest : List Input) : (s.begun rest).cmd = s.cmd := rfl
@[simp] theorem State.begun_rsp (s : State) (rest : List Input) : (s.begun rest).rsp = s.rsp := rfl
@[simp] theorem State.begun_widthValid (s : State) (rest : List Input) :
    (s.begun rest).widthValid = s.widthValid := rfl
@[simp] theorem State.begun_v6Bound (s : State) (rest : List Input) :
    (s.begun rest).v6Bound = s.v6Bound := rfl
@[simp] theorem State.begun_busy (s : State) (rest : List Input) :
    (s.begun rest).busy = s.busy := rfl
@[simp] theorem State.begun_log (s : State) (rest : List Input) : (s.begun rest).log = s.log := rfl

/-- What a step without a reset does, once the input is taken off and the diagnostic port is empty
(log 2 for who moves). -/
inductive State.Moves (s : State) : State → Prop
  | waits (hb : s.busy = false) : s.Moves s
  | goesOn {t : State} (hb : s.busy = true) (hr : s.resume = some t) : s.Moves t
  | accepts {t : State} (i : Instr) (hb : s.busy = false)
      (hr : (s.launched i).resume = some t) : s.Moves t
  | rejects (w : PortWord) (hb : s.busy = false) : s.Moves (s.rejectWord w)
  | ready (b : Bool) : s.Moves (s.setReady b)
  | otherUsers (a b : Word) : s.Moves (s.interfere a b)
  | targetChange (a b : Word) (x : XAddr) (v : Word) : s.Moves (s.targetChange a b x v)

/-- Every step is a reset or a move of `State.Moves`. -/
theorem step_cases {s t : State} (h : step s = .next t) :
    (∃ landed rest tgt, s.inputs = .rst landed :: rest ∧
      t = (s.begun rest).hardReset tgt landed) ∨
    ∃ rest, (s.begun rest).Moves t := by
  rcases move_cases (step_next_iff.1 h).2 with ⟨u, hu, hgo⟩ |
    ⟨w, rest, -, hb, ⟨i, -, hx⟩ | ⟨-, rfl⟩⟩ | ⟨b, rest, -, rfl⟩ | ⟨landed, rest, hi, rfl⟩ |
    ⟨a, b, rest, -, rfl⟩ | ⟨a, b, x, v, rest, -, rfl⟩
  · right
    obtain ⟨rest, rfl⟩ : ∃ rest, u = s.begun rest := by
      rcases hu with rfl | ⟨rest, -, rfl⟩
      · exact ⟨s.inputs, rfl⟩
      · exact ⟨rest, rfl⟩
    rcases hgo with ⟨hb, rfl⟩ | ⟨hb, hr⟩
    · exact ⟨rest, .waits hb⟩
    · exact ⟨rest, .goesOn hb hr⟩
  · exact .inr ⟨rest, .accepts i hb ((exec_idle_iff_resume (s := s.begun rest) hb).1 hx)⟩
  · exact .inr ⟨rest, .rejects w hb⟩
  · exact .inr ⟨rest, .ready b⟩
  · exact .inl ⟨landed, rest, _, hi, rfl⟩
  · exact .inr ⟨rest, .otherUsers a b⟩
  · exact .inr ⟨rest, .targetChange a b x v⟩

theorem State.rejectWord_idle {s : State} (hb : s.busy = false) (w : PortWord) :
    s.rejectWord w = (s.take w).raiseFail .eIllegal := by simp [State.rejectWord, hb]

end Sys2Proof.Machine
end

section
/-! SUPPORT. The obligations on the registers of BSE (10_state.md) but the invariant. -/

namespace Sys2Proof.Machine

/-- Settles O15: `exec` on a BUSY machine is the identity, and the step goes on with the operation in
flight, which leaves inputs and latches alone. -/
theorem commandWaitsWhileBusy : Obligations.CommandWaitsWhileBusy := by
  refine ⟨fun i s hb => exec_next_iff.2 (State.perform_busy hb i _).symm, ?_⟩
  intro s t w rest hb hi h
  have hmove : move s.beginStep = goOn s.beginStep := by simp [move, hi, hb]
  have hgo := (step_next_iff.1 h).2
  rw [hmove] at hgo
  rcases goOn_cases hgo with ⟨hb', -⟩ | ⟨-, hr⟩
  · simp [hb] at hb'
  · obtain ⟨-, hcmd, -, hinp⟩ := State.resume_frame hr
    exact ⟨hinp, hcmd⟩

/-- Settles O33: the scripts of the five operations write no session register. -/
theorem onlyInitWritesSessionRegisters : Obligations.OnlyInitWritesSessionRegisters := by
  intro i s t hi h
  obtain ⟨hsess, hframe⟩ := runs_session (fun c => scriptOf_sessionless c hi) hi h
  obtain ⟨hw, hv, hb⟩ := hsess.of_sessionless
  exact ⟨hw, hv, hb, hframe⟩

/-- Settles O34: INIT's script records supported widths only. -/
theorem initRecordsOnlySupportedWidths : Obligations.InitRecordsOnlySupportedWidths := by
  intro s t off addr data h
  obtain ⟨⟨hwidth, -⟩, hframe⟩ := runs_session (bind := True) initScript_writesOnly
    (fun _ => trivial) h
  exact ⟨hwidth, hframe⟩

/-- Settles O49: scripts write the flags to 1 only. -/
theorem sessionFlagsFallOnlyAtReset : Obligations.SessionFlagsFallOnlyAtReset := by
  intro s t h hrst
  obtain ⟨landed, rest, -, hi, -⟩ | ⟨rest, hm⟩ := step_cases h
  · exact absurd hi (hrst landed rest)
  cases hm with
  | waits hb => exact ⟨id, id⟩
  | goesOn hb hr => simpa using State.resume_flags hr
  | accepts i hb hr =>
    obtain ⟨hv, hw⟩ := State.resume_flags hr
    exact ⟨fun h => hv (by simp [h]), fun h => hw (by simp [h])⟩
  | rejects w hb => simp [State.rejectWord_idle hb]
  | ready b => exact ⟨id, id⟩
  | otherUsers a b => exact ⟨id, id⟩
  | targetChange a b x v => exact ⟨id, id⟩

/-- Settles O50: a BUSY machine accepts and rejects nothing, and going on keeps the latches. -/
theorem latchesHoldDuringAnOperation : Obligations.LatchesHoldDuringAnOperation := by
  intro s t hbusy h hrst
  obtain ⟨landed, rest, -, hi, -⟩ | ⟨rest, hm⟩ := step_cases h
  · exact absurd hi (hrst landed rest)
  cases hm with
  | waits hb => exact ⟨rfl, fun _ => rfl⟩
  | goesOn hb hr =>
    obtain ⟨-, hcmd, -⟩ := State.resume_frame hr
    exact ⟨hcmd, (State.resume_rsp hr).resolve_left⟩
  | accepts i hb hr => simp [hbusy] at hb
  | rejects w hb => simp [hbusy] at hb
  | ready b => exact ⟨rfl, fun _ => rfl⟩
  | otherUsers a b => exact ⟨rfl, fun _ => rfl⟩
  | targetChange a b x v => exact ⟨rfl, fun _ => rfl⟩

/-- Settles O51: every update of the state keeps `cfg` and appends to `log`. -/
theorem stepKeepsConfigurationAndHistory : Obligations.StepKeepsConfigurationAndHistory := by
  intro s t h
  obtain ⟨landed, rest, tgt, -, rfl⟩ | ⟨rest, hm⟩ := step_cases h
  · simp
  cases hm with
  | waits hb => simp
  | goesOn hb hr =>
    obtain ⟨hcfg, -⟩ := State.resume_frame hr
    exact ⟨hcfg, by simpa using State.resume_log hr⟩
  | accepts i hb hr =>
    obtain ⟨hcfg, -⟩ := State.resume_frame hr
    exact ⟨by simpa using hcfg, (by simp : s.log <+: _).trans (State.resume_log hr)⟩
  | rejects w hb =>
    rw [State.rejectWord_idle hb]
    refine ⟨by simp, ?_⟩
    rw [State.raiseFail_log]
    split <;> simp
  | ready b => simp
  | otherUsers a b => simp
  | targetChange a b x v => simp

/-- Settles O46: no operation runs at reset, no width is recorded, the transport is the open one. -/
theorem resetMeetsTheInvariant : Obligations.ResetMeetsTheInvariant where
  cfgWf := by decide
  widthRange := nofun
  widthBound := nofun
  widthUnlearned := fun _ => rfl
  busySeq := by decide
  position := nofun
  taken := nofun
  initBound := nofun
  reasonCode := by decide
  regsWf := nofun

end Sys2Proof.Machine
end

section
/-! SUPPORT. Every step keeps `State.Inv`: first what a run establishes of it field by field, then each
way a step can go. -/

namespace Sys2Proof.Machine

/-! ### What a run of a script keeps -/

theorem Reason.code_le (q : Reason) : q.code.toNat ≤ 7 := by cases q <;> decide

/-- The response latches never hold a reserved reason code (30_encoding.md R86). -/
theorem Script.run_reasonCode (p : Script) {s : State} (h : s.rsp.reason.toNat ≤ 7) :
    (p.run s).rsp.reason.toNat ≤ 7 := by
  refine Script.run_induction (P := fun t => t.rsp.reason.toNat ≤ 7)
    (Q := fun t => t.rsp.reason.toNat ≤ 7) ?_ ?_ ?_ ?_ ?_ ?_ ?_ ?_ p s h
  · intro t role r v h; simpa using h
  · intro t h; exact h
  · intro t w h; exact h
  · intro t w h; exact h
  · intro t role r l _; rw [State.raiseFail_rsp]; exact Reason.code_le .eTransport
  · intro t taken h; exact h
  · intro t q _; rw [State.raiseFail_rsp]; exact q.code_le
  · intro t ok q cls a d _; rw [State.answerWith_rsp]; exact q.code_le

/-- A run of a running operation leaves BUSY at 0 exactly where no operation is in flight
(10_state.md R26). -/
theorem Script.run_busySeq (p : Script) {s : State} (hb : s.busy = true)
    (hs : ∃ vs, s.seq = .running vs) : (p.run s).busy = true ↔ (p.run s).seq ≠ .idle := by
  rcases p.run_ends s hb hs with ⟨hb', hq, -⟩ | ⟨hb', hq, -⟩ | ⟨hb', _, hq⟩ <;> simp [hb', hq]

/-- The reference target's map, if that is what answers, is canonical (20_memory.md R67). -/
def Transport.RegsWf (t : Transport) : Prop := ∀ r, t = .reference r → r.regs.wf = true

theorem State.answered_regsWf {s : State} (h : s.transport.RegsWf) (role : Role) (r : Request)
    (a : Answer) : (s.answered role r a).transport.RegsWf := by
  intro t ht
  rw [State.answered_transport] at ht
  obtain ⟨as, -, hc⟩ | ⟨t₀, t₁, hs, hc, hwf⟩ := s.carry_transport_cases role r a
  · rw [hc] at ht; cases ht
  · rw [hc] at ht; cases ht; exact hwf (h t₀ hs)

theorem State.wait_regsWf {s : State} (h : s.transport.RegsWf) (taken : Bool) :
    (s.wait taken).transport.RegsWf := by
  intro t ht
  cases hs : s.transport with
  | live as => simp [State.wait, hs] at ht
  | reference t₀ => simp only [State.wait, hs] at ht; exact h t (hs.trans ht)

theorem State.targetChange_regsWf {s : State} (h : s.transport.RegsWf) (a b : Word) (x : XAddr)
    (v : Word) : (s.targetChange a b x v).transport.RegsWf := by
  intro t ht
  cases hs : s.transport with
  | live as => simp [State.targetChange, hs] at ht
  | reference t₀ =>
    simp only [State.targetChange, hs, Transport.reference.injEq] at ht
    exact ht ▸ RegMap.set_wf (h t₀ hs) _ _

theorem Script.run_regsWf (p : Script) {s : State} (h : s.transport.RegsWf) :
    (p.run s).transport.RegsWf := by
  refine Script.run_induction (P := fun t => t.transport.RegsWf)
    (Q := fun t => t.transport.RegsWf) ?_ ?_ ?_ ?_ ?_ ?_ ?_ ?_ p s h
  · intro t role r v h; exact State.answered_regsWf h role r _
  · intro t h; exact h
  · intro t w h; exact h
  · intro t w h; exact h
  · intro t role r l h; rw [State.raiseFail_transport]; exact State.answered_regsWf h role r _
  · intro t taken h; exact State.wait_regsWf h taken
  · intro t q h; rwa [State.raiseFail_transport]
  · intro t ok q cls a d h; rwa [State.answerWith_transport]

/-- A request that was taken belongs to a running operation (30_encoding.md R91). -/
def State.TakenRuns (s : State) : Prop := s.reqTaken = true → ∃ vs, s.seq = .running vs

/-- From no request taken, a run ends with one taken only where it waits for the answer. -/
theorem Script.run_takenRuns (p : Script) {s : State} (hs : ∃ vs, s.seq = .running vs)
    (h : s.reqTaken = false) : (p.run s).TakenRuns := by
  refine Script.run_induction
    (P := fun t => (∃ vs, t.seq = .running vs) ∧ t.reqTaken = false)
    (Q := State.TakenRuns) ?_ ?_ ?_ ?_ ?_ ?_ ?_ ?_ p s ⟨hs, h⟩
  · rintro t role r v ⟨⟨vs, hv⟩, -⟩
    exact ⟨⟨vs ++ [r.value v], by simp [State.advance, hv]⟩, by simp⟩
  · intro t h; exact h
  · intro t w h; exact h
  · intro t w h; exact h
  · rintro t role r l - ht; simp at ht
  · rintro t taken ⟨hv, -⟩ -; exact hv
  · rintro t q ⟨-, hn⟩ ht; simp [hn] at ht
  · rintro t ok q cls a d ⟨-, hn⟩ ht; simp [hn] at ht

/-- The same from a script's transaction, whether its request was taken or not: an answer drops it. -/
theorem Script.run_atXfer_takenRuns {p : Script} (hp : p.atXfer = true) {s : State}
    (hs : ∃ vs, s.seq = .running vs) : (p.run s).TakenRuns := by
  cases p with
  | xfer role r k =>
    cases h : s.answer r with
    | ok v =>
      rw [Script.run_xfer_ok h]
      obtain ⟨vs, hv⟩ := hs
      exact Script.run_takenRuns _ ⟨vs ++ [r.value v], by simp [State.advance, hv]⟩ (by simp)
    | err l => rw [Script.run_xfer_err h]; intro ht; simp at ht
    | silent taken => rw [Script.run_xfer_silent h]; exact fun _ => hs
  | _ => cases hp

/-! ### The invariant -/

/-- The invariant does not speak of the ports, the target's SELECT and SELECT1, the log, or how
long a request has waited. -/
theorem State.Inv.with_world {s : State} (h : s.Inv) (diagOut : List PortWord) (hostReady : Bool)
    (inputs : List Input) (target : Target) {transport : Transport} (ht : transport.RegsWf)
    (waits : Nat) (log : List Event) :
    State.Inv { s with
      diagOut := diagOut, hostReady := hostReady, inputs := inputs, target := target
      transport := transport, waits := waits, log := log } where
  cfgWf := h.cfgWf
  widthRange := h.widthRange
  widthBound := h.widthBound
  widthUnlearned := h.widthUnlearned
  busySeq := h.busySeq
  position := h.position
  taken := h.taken
  initBound := h.initBound
  reasonCode := h.reasonCode
  regsWf := ht

/-- BUSY is 0 in no operation (10_state.md R34 (d)). -/
theorem State.Inv.seq_of_idle {s : State} (h : s.Inv) (hb : s.busy = false) : s.seq = .idle := by
  by_contra hs
  simp [h.busySeq.2 hs] at hb

/-- No request is taken where no operation runs. -/
theorem State.Inv.reqTaken_of_ended {s : State} (h : s.Inv) (he : s.Ended) :
    s.reqTaken = false := by
  by_contra ht
  obtain ⟨vs, hv⟩ := h.taken (by simpa using ht)
  exact he vs hv

/-- A response that is offered again stays presented or is taken, which ends the operation
(30_encoding.md R91). -/
theorem State.Inv.offer {s : State} (h : s.Inv) (hresp : s.seq = .responding) : s.offer.Inv := by
  have he : s.Ended := by rw [State.Ended, hresp]; nofun
  obtain ⟨-, heq⟩ | ⟨-, heq⟩ := s.offer_cases <;> rw [heq]
  · exact {
      cfgWf := h.cfgWf
      widthRange := h.widthRange
      widthBound := h.widthBound
      widthUnlearned := h.widthUnlearned
      busySeq := by simp
      position := nofun
      taken := fun ht => by simp [h.reqTaken_of_ended he] at ht
      initBound := nofun
      reasonCode := h.reasonCode
      regsWf := h.regsWf }
  · exact h

/-- A word that is taken from the port and answered at once keeps the invariant. -/
theorem State.Inv.respond {s : State} (h : s.Inv) (hb : s.busy = false) (w : PortWord)
    {r : Response} (hr : r.reason.toNat ≤ 7) :
    State.Inv { s.take w with rsp := r, seq := .responding } where
  cfgWf := h.cfgWf
  widthRange := h.widthRange
  widthBound := h.widthBound
  widthUnlearned := h.widthUnlearned
  busySeq := by simp
  position := nofun
  taken := fun ht => by
    have he : s.Ended := by rw [State.Ended, h.seq_of_idle hb]; nofun
    simp [h.reqTaken_of_ended he] at ht
  initBound := nofun
  reasonCode := hr
  regsWf := h.regsWf

/-- An illegal word keeps the invariant: its response is `E_ILLEGAL` (30_encoding.md R84). -/
theorem State.Inv.rejectWord {s : State} (h : s.Inv) (hb : s.busy = false) (w : PortWord) :
    (s.rejectWord w).Inv := by
  rw [State.rejectWord_idle hb]
  exact (h.respond hb w (Reason.code_le .eIllegal)).offer rfl

/-- Acceptance meets the invariant: the position is at the first transaction, and INIT has bound. -/
theorem State.Inv.launched {s : State} (h : s.Inv) (i : Instr) : (s.launched i).Inv where
  cfgWf := by simpa using h.cfgWf
  widthRange := by simpa using h.widthRange
  widthBound := fun hv => by simp [h.widthBound (by simpa using hv)]
  widthUnlearned := by simpa using h.widthUnlearned
  busySeq := by simp
  position := fun _ _ => s.launched_outstanding i
  taken := by simp
  initBound := fun vs _ hop => by
    have hi : i.command.op = 3#4 := by simpa [latchesOf] using hop
    simp [hi]
  reasonCode := by simpa using h.reasonCode
  regsWf := by simpa using h.regsWf

/-- A width that is recorded when a running operation goes on is a supported one, and one that is not
keeps its reset value (10_state.md R34 (a), (c)). -/
theorem State.Inv.resume_width {s t : State} (h : s.Inv) {i : Instr} (hl : s.latched = .ok i)
    (hr : s.resume = some t) :
    (t.widthValid = true → 32 ≤ t.addrWidth.toNat ∧ t.addrWidth.toNat ≤ 64) ∧
    (t.widthValid = false → t.addrWidth = 0#7) := by
  obtain ⟨⟨hw, hv⟩ | ⟨hv, hw⟩, -⟩ := State.resume_session hl (scriptOf_writesOnly s.cfg i) hr
  · rw [hw, hv]
    exact ⟨h.widthRange, h.widthUnlearned⟩
  · exact ⟨fun _ => hw, fun hf => by simp [hv] at hf⟩

/-- INIT has bound before it goes on, and no other operation records a width (10_state.md R34
(b)). -/
theorem State.Inv.resume_bound {s t : State} (h : s.Inv) {i : Instr} {vs : List Word}
    (hs : s.seq = .running vs) (hl : s.latched = .ok i) (hr : s.resume = some t)
    (hv : t.widthValid = true) : t.v6Bound = true := by
  obtain ⟨hbound, -⟩ := State.resume_flags hr
  by_cases hi : i.command.op = 3#4
  · exact hbound (h.initBound vs hs (State.op_of_latched hl ▸ hi))
  · obtain ⟨-, hvalid, -⟩ :=
      (State.resume_session hl (scriptOf_sessionless s.cfg hi) hr).of_sessionless
    exact hbound (h.widthBound (hvalid ▸ hv))

/-- Going on keeps the invariant. -/
theorem State.Inv.resume {s t : State} (h : s.Inv) (hr : s.resume = some t) : t.Inv := by
  obtain ⟨hresp, rfl⟩ | ⟨vs, i, hs, hl, hx, rfl⟩ := State.resume_cases_script hr
  · exact h.offer hresp
  · obtain ⟨hwidth, hunlearned⟩ := h.resume_width hl hr
    obtain ⟨hcfg, hcmd, -⟩ := State.resume_frame hr
    exact {
      cfgWf := by rw [hcfg]; exact h.cfgWf
      widthRange := hwidth
      widthBound := h.resume_bound hs hl hr
      widthUnlearned := hunlearned
      busySeq := Script.run_busySeq _ (h.busySeq.2 (by simp [hs])) ⟨vs, hs⟩
      position := fun vs' hq => by
        rw [State.outstanding_isSome hq (i := i) (by rw [State.latched, hcmd]; exact hl), hcfg]
        exact (scriptOf_readsFinalWidth s.cfg i).run_after_position hs hq
      taken := Script.run_atXfer_takenRuns hx ⟨vs, hs⟩
      initBound := fun _ _ hop =>
        (State.resume_flags hr).1 (h.initBound vs hs (hcmd ▸ hop))
      reasonCode := Script.run_reasonCode _ h.reasonCode
      regsWf := Script.run_regsWf _ h.regsWf }

/-- A reset leaves the reset values, the configuration and the transport (70_reset_and_hazards.md
R240). -/
theorem State.Inv.hardReset {s : State} (h : s.Inv) (tgt : Target) (landed : Bool) :
    (s.hardReset tgt landed).Inv where
  cfgWf := h.cfgWf
  widthRange := nofun
  widthBound := nofun
  widthUnlearned := fun _ => rfl
  busySeq := by simp
  position := nofun
  taken := nofun
  initBound := nofun
  reasonCode := by simp [Response.reset]
  regsWf := h.regsWf

theorem State.Inv.begun {s : State} (h : s.Inv) (rest : List Input) : (s.begun rest).Inv :=
  h.with_world [] s.hostReady rest s.target h.regsWf s.waits s.log

/-- Settles O45: the invariant at each way a step can go, a command being accepted as going on from
`State.launched`. -/
theorem stepKeepsTheInvariant : Obligations.StepKeepsTheInvariant := by
  intro s t h hstep
  obtain ⟨landed, rest, tgt, -, rfl⟩ | ⟨rest, hm⟩ := step_cases hstep
  · exact (h.begun rest).hardReset tgt landed
  have hu := h.begun rest
  generalize s.begun rest = u at hu hm
  cases hm with
  | waits hb => exact hu
  | goesOn hb hr => exact hu.resume hr
  | accepts i hb hr => exact (hu.launched i).resume hr
  | rejects w hb => exact hu.rejectWord hb w
  | ready b => exact hu.with_world u.diagOut b u.inputs u.target hu.regsWf u.waits u.log
  | otherUsers a b =>
    exact hu.with_world u.diagOut u.hostReady u.inputs ⟨a, b⟩ hu.regsWf u.waits _
  | targetChange a b x v =>
    exact hu.with_world u.diagOut u.hostReady u.inputs u.target
      (State.targetChange_regsWf hu.regsWf a b x v) u.waits _

end Sys2Proof.Machine
end

section
/-! SUPPORT. The obligations on waiting at the transport (20_memory.md R52): a request without an
answer stays outstanding, and an answer that comes late has the effect of one that comes at once. -/

namespace Sys2Proof.Machine

/-! ### A silent transport -/

@[simp] theorem State.wait_outstanding (s : State) (taken : Bool) :
    (s.wait taken).outstanding = s.outstanding := rfl

/-- A machine with a request outstanding is in a script, at the transaction of that request. -/
theorem State.remaining_of_outstanding {s : State} (h : s.outstanding.isSome = true) :
    ∃ role r k vs, s.remaining = some (.xfer role r k) ∧ s.seq = .running vs := by
  unfold State.outstanding at h
  split at h
  next role r k hp =>
    obtain ⟨vs, i, hs, -, -⟩ := State.remaining_cases hp
    exact ⟨role, r, k, vs, hp, hs⟩
  next => cases h

/-- Going on while the transport is silent is waiting (20_memory.md R52). -/
theorem State.resume_silent {s : State} {taken : Bool} {as : List Answer}
    (h : s.outstanding.isSome = true) (ht : s.transport = .live (.silent taken :: as)) :
    s.resume = some (s.wait taken) := by
  obtain ⟨role, r, k, vs, hp, hs⟩ := State.remaining_of_outstanding h
  rw [State.resume, hp, hs]
  exact congrArg some (Script.run_xfer_silent (State.answer_live ht r))

/-- Settles O41: both clauses are `State.wait`, the first one after acceptance. -/
theorem silentTransportKeepsBusy : Obligations.SilentTransportKeepsBusy := by
  refine ⟨fun i s taken as hb ht => ?_, fun u taken as ho ht => ?_⟩
  · have ho := s.launched_outstanding i
    refine ⟨(s.launched i).wait taken, ?_, by simp, by simpa using ho, ?_, by simp, by simp⟩
    · exact (exec_idle_iff_resume hb).2 (State.resume_silent ho (by simpa using ht))
    · simp [State.xReqValid, ho]
  · refine ⟨u.wait taken, State.resume_silent ho ht, by simp, by simp, by simp, ?_, by simp,
      by simp⟩
    simp [State.xReqValid, Bool.and_assoc]

/-! ### A late answer -/

/-- The same machine with other answers listed at the open transport. -/
def State.withAnswers (s : State) (as : List Answer) : State := { s with transport := .live as }

@[simp] theorem State.withAnswers_addrWidth (s : State) (as : List Answer) :
    (s.withAnswers as).addrWidth = s.addrWidth := rfl

/-- A transaction answered at the open transport, field by field (20_memory.md R51, R52). -/
theorem State.answered_live {s : State} {as : List Answer} (h : s.transport = .live as)
    (role : Role) (r : Request) (a : Answer) :
    s.answered role r a = { s with
      transport := .live as.tail
      target := if a.lands then s.target.land s.cfg s.log role r else s.target
      reqTaken := false
      waits := 0
      log := s.log ++ [.xfer r (a.seen r)] } := by
  rw [State.answered, State.carry_live h]

/-- An answer after which the same answers are left leaves the same state, whatever list it came
from. -/
theorem State.answered_withAnswers {s : State} {as bs : List Answer} {b : Answer}
    (h : s.transport = .live as) (role : Role) (r : Request) (a : Answer) :
    (s.withAnswers (b :: bs)).answered role r a = (s.answered role r a).withAnswers bs := by
  rw [State.answered_live h, State.answered_live (as := b :: bs) rfl]
  rfl

/-- Waiting takes the silent answer off the list (20_memory.md R52). -/
theorem State.wait_transport {s : State} {a : Answer} {as : List Answer}
    (h : s.transport = .live (a :: as)) (taken : Bool) :
    (s.wait taken).transport = .live as := by
  rw [State.wait, h]
  rfl

/-- An answer ends the wait for it and leaves no trace of it (20_memory.md R52). -/
theorem State.answered_wait {s : State} {c b : Answer} {bs : List Answer}
    (h : s.transport = .live (c :: b :: bs)) (taken : Bool) (role : Role) (r : Request)
    (a : Answer) :
    (s.wait taken).answered role r a = (s.withAnswers (b :: bs)).answered role r a := by
  rw [State.answered_live (State.wait_transport h taken),
    State.answered_live (as := b :: bs) rfl]
  rfl

/-- A transaction whose answer comes late goes on as if the answer had come at once. -/
theorem Script.run_xfer_wait {s : State} {taken : Bool} {b : Answer} {bs : List Answer}
    (h : s.transport = .live (.silent taken :: b :: bs)) (hb : ∀ k, b ≠ .silent k) (role : Role)
    (r : Request) (k : Word → Script) :
    (Script.xfer role r k).run (s.wait taken) =
      (Script.xfer role r k).run (s.withAnswers (b :: bs)) := by
  have hl : (s.wait taken).answer r = b := State.answer_live (State.wait_transport h taken) r
  have ho : (s.withAnswers (b :: bs)).answer r = b := State.answer_live rfl r
  have ha := State.answered_wait h taken role r b
  cases b with
  | ok v => rw [Script.run_xfer_ok hl, Script.run_xfer_ok ho, ha]
  | err l => rw [Script.run_xfer_err hl, Script.run_xfer_err ho, ha]
  | silent taken' => exact absurd rfl (hb taken')

/-- A run that stops where the transport is silent after successes: what is left of the script, run
from there, ends as the run does that finds the late answer at once. -/
theorem Script.ReadsFinalWidth.run_late {p : Script} (hp : p.ReadsFinalWidth) {s : State}
    {vs vs' : List Word} {as bs : List Answer} {b : Answer} {taken : Bool}
    (hs : s.seq = .running vs) (hok : ∀ a ∈ as, ∃ v, a = .ok v) (hb : ∀ k, b ≠ .silent k)
    (ht : s.transport = .live (as ++ .silent taken :: b :: bs))
    (hstop : (p.run s).seq = .running vs') :
    ∃ us, vs' = vs ++ us ∧ (p.after (p.run s).addrWidth us).atXfer = true ∧
      (p.after (p.run s).addrWidth us).run (p.run s) = p.run (s.withAnswers (as ++ b :: bs)) := by
  induction p generalizing s vs as with
  | xfer role r k ih =>
    cases as with
    | nil =>
      rw [Script.run_xfer_silent (State.answer_live ht r), State.wait_seq, hs] at hstop
      cases hstop
      rw [Script.run_xfer_silent (State.answer_live ht r)]
      exact ⟨[], by simp, rfl, Script.run_xfer_wait ht hb role r k⟩
    | cons a as =>
      obtain ⟨⟨v, rfl⟩, hrest⟩ := List.forall_mem_cons.1 hok
      have hnow := State.answer_live ht r
      have hatOnce : (s.withAnswers (.ok v :: as ++ b :: bs)).answer r = .ok v :=
        State.answer_live rfl r
      rw [Script.run_xfer_ok hnow] at hstop ⊢
      rw [Script.run_xfer_ok hatOnce]
      obtain ⟨us, rfl, hx, hrun⟩ := ih _ (hp _) (vs := vs ++ [r.value v]) (as := as)
        (by simp [State.advance, hs]) hrest (by simp [State.carry_live ht]) hstop
      refine ⟨r.value v :: us, by simp, hx, hrun.trans ?_⟩
      rw [List.cons_append, State.answered_withAnswers ht]
      rfl
  | bindV6 k ih => exact ih hp (s := s.bindV6) hs hok ht hstop
  | recordWidth w k ih => exact ih hp (s := s.recordWidth w) hs hok ht hstop
  | readWidth k ih =>
    have hk := hp s.addrWidth
    have hlate := ih _ hk.readsFinalWidth hs hok ht hstop
    simpa only [Script.run, Script.after, hk.run_addrWidth, State.withAnswers_addrWidth] using hlate
  | diag w k ih => exact ih hp (s := s.emit w) hs hok ht hstop
  | fail q => rw [Script.run, State.raiseFail_seq] at hstop; split at hstop <;> cases hstop
  | ret ok q cls a d =>
    rw [Script.run, State.answerWith_seq] at hstop; split at hstop <;> cases hstop

/-- Settles O40: the machine goes on with what is left of the script of `i`, for which
`Script.ReadsFinalWidth.run_late` holds. -/
theorem latencyIsInvisible : Obligations.LatencyIsInvisible := by
  intro i s t u as bs b taken hbusy hok hb ht hu hend ht'
  rw [exec_next_iff, State.perform_idle hbusy] at hu
  rw [exec_next_iff, State.perform_idle (by exact hbusy)] at ht'
  obtain ⟨vs, hvs⟩ : ∃ vs, u.seq = .running vs := by simpa [State.Ended] using hend
  have hcfg : u.cfg = s.cfg := by simp [hu]
  have hlat : u.latched = .ok i :=
    State.latched_of_cmd (by rw [hu, Script.run_latches, State.accept_encode_cmd])
  obtain ⟨us, hus, hx, hrun⟩ := (scriptOf_readsFinalWidth s.cfg i).run_late
    (s.accept_seq (encode i)) hok hb ht (hu ▸ hvs)
  obtain rfl : vs = us := hus
  rw [← hu] at hx hrun
  rw [State.resume_running hvs hlat (hcfg ▸ hx), hcfg, hrun, ht']
  rfl

end Sys2Proof.Machine
end

section
/-! SUPPORT. Running a script against the reference target (20_memory.md R67): one rule per
transaction and one per select sub-sequence, each for any property `P` of the final state. -/

namespace Sys2Proof.Machine

/-- The transport is the reference target with the registers, writes and failures of `r`, after any
number of transactions. -/
def State.AtReference (s : State) (r : RefTarget) : Prop :=
  ∃ n, s.transport = .reference { r with count := n }

/-- What the register at `x` holds while `tgt` is selected (20_memory.md R67). -/
def RefTarget.held (r : RefTarget) (tgt : Target) (x : XAddr) : Word :=
  r.regs.get (regKey tgt.select1 tgt.select x)

/-- The reference target once the register at `x` has taken a write while `tgt` is selected. -/
def RefTarget.stored (r : RefTarget) (tgt : Target) (x : XAddr) (d : Word) : RefTarget :=
  { r with
    regs := r.regs.set (regKey tgt.select1 tgt.select x) d
    wlog := r.wlog ++ [⟨tgt.select1, tgt.select, x, d⟩] }

/-- A register that took a write holds the value written. -/
theorem RefTarget.held_stored {r : RefTarget} (h : r.regs.wf = true) (tgt : Target) (x : XAddr)
    (d : Word) : (r.stored tgt x d).held tgt x = d := RegMap.get_set_same h _ d

theorem State.atReference {s : State} {r : RefTarget} (h : s.transport = .reference r) :
    s.AtReference r := ⟨r.count, h⟩

theorem State.accept_atReference {s : State} {w : PortWord} {r : RefTarget} :
    (s.accept w).AtReference r ↔ s.AtReference r := Iff.rfl

@[simp] theorem State.raiseFail_atReference {s : State} {q : Reason} {r : RefTarget} :
    (s.raiseFail q).AtReference r ↔ s.AtReference r := by simp [State.AtReference]

@[simp] theorem State.answerWith_atReference {s : State} {ok : Bool} {q : Reason} {cls : BitVec 4}
    {a : Addr} {d : Word} {r : RefTarget} :
    (s.answerWith ok q cls a d).AtReference r ↔ s.AtReference r := by simp [State.AtReference]

/-! ### What a write does -/

theorem RefTarget.write_select (r : RefTarget) (c : Cfg) (tgt : Target) (d : Word) :
    r.write c tgt c.xaddrSelect d = (r, { tgt with select := d }) := by simp [RefTarget.write]

/-- With SELECT1 exposed, a write at its address changes no other register; where SELECT shares that
address, SELECT takes the write. -/
theorem RefTarget.write_select1 (r : RefTarget) {c : Cfg} {tgt : Target}
    (h : select1Exposed c tgt = true) (d : Word) :
    r.write c tgt c.xaddrSelect1 d =
      (r, if c.xaddrSelect1 = c.xaddrSelect then { tgt with select := d }
        else { tgt with select1 := d }) := by
  unfold RefTarget.write
  split <;> simp [h]

/-- A write at neither address is kept (20_memory.md R67). -/
theorem RefTarget.write_register (r : RefTarget) {c : Cfg} (tgt : Target) {x : XAddr}
    (hx : x ≠ c.xaddrSelect) (hx1 : x ≠ c.xaddrSelect1) (d : Word) :
    r.write c tgt x d = (r.stored tgt x d, tgt) := by
  simp [RefTarget.write, RefTarget.stored, hx, hx1]

theorem RefTarget.write_cases (r : RefTarget) (c : Cfg) (tgt : Target) (x : XAddr) (d : Word) :
    (r.write c tgt x d).1 = r ∨ (r.write c tgt x d).1 = r.stored tgt x d := by
  unfold RefTarget.write RefTarget.stored
  split_ifs <;> simp

/-- A write does not look at the number of transactions. -/
theorem RefTarget.write_withCount (r : RefTarget) (c : Cfg) (tgt : Target) (x : XAddr) (d : Word)
    (n : Nat) : RefTarget.write { r with count := n } c tgt x d =
      ({ (r.write c tgt x d).1 with count := n }, (r.write c tgt x d).2) := by
  unfold RefTarget.write
  split_ifs <;> rfl

/-! ### One transaction -/

theorem State.answer_reference {s : State} {r : RefTarget} (h : s.transport = .reference r)
    (q : Request) : s.answer q = r.answer s.target q := by rw [State.answer, h]

/-- The reference target answers at once, and fails nothing where FAILAT is empty. -/
theorem RefTarget.answer_read_cases (r : RefTarget) (tgt : Target) (x : XAddr) :
    r.failAt ≠ [] ∧ r.answer tgt (.read x) = .err false ∨
    r.answer tgt (.read x) = .ok (r.held tgt x) := by
  unfold RefTarget.answer
  split
  next hf => exact .inl ⟨fun hn => by simp [hn] at hf, rfl⟩
  next => exact .inr rfl

theorem RefTarget.answer_write_cases (r : RefTarget) (tgt : Target) (x : XAddr) (d : Word) :
    r.failAt ≠ [] ∧ r.answer tgt (.write x d) = .err false ∨
    r.answer tgt (.write x d) = .ok 0#32 := by
  unfold RefTarget.answer
  split
  next hf => exact .inl ⟨fun hn => by simp [hn] at hf, rfl⟩
  next => exact .inr rfl

theorem State.carry_reference_err {s : State} {r : RefTarget} (h : s.transport = .reference r)
    (role : Role) (q : Request) (l : Bool) : s.carry role q (.err l) =
      { s with transport := .reference { r with count := r.count + 1 } } := by
  rw [State.carry, h]

theorem State.carry_reference_read {s : State} {r : RefTarget} (h : s.transport = .reference r)
    (role : Role) (x : XAddr) (v : Word) : s.carry role (.read x) (.ok v) =
      { s with transport := .reference { r with count := r.count + 1 } } := by
  rw [State.carry, h]

theorem State.carry_reference_write {s : State} {r : RefTarget} (h : s.transport = .reference r)
    (role : Role) (x : XAddr) (d v : Word) : s.carry role (.write x d) (.ok v) =
      { s with
        transport := .reference { (r.write s.cfg s.target x d).1 with count := r.count + 1 }
        target := (r.write s.cfg s.target x d).2 } := by
  rw [State.carry, h]

section
variable {P : State → Prop} {s : State} {r : RefTarget}

/-- A transaction that fails ends the operation and leaves the reference target as it was. -/
theorem Script.run_err_atReference (h : s.AtReference r) {role : Role} {q : Request}
    {k : Word → Script} {l : Bool} (ha : s.answer q = .err l) :
    ((Script.xfer role q k).run s).AtReference r := by
  obtain ⟨n, h⟩ := h
  rw [Script.run_xfer_err ha, State.raiseFail_atReference]
  exact ⟨n + 1, by rw [State.answered_transport, State.carry_reference_err h]⟩

/-- A read at the reference target changes nothing there. -/
theorem Script.run_read_reference {role : Role} {x : XAddr} {k : Word → Script}
    (h : s.AtReference r) (hfail : r.failAt ≠ [] → ∀ t : State, t.AtReference r → P t)
    (hok : ∀ t : State, t.cfg = s.cfg → t.target = s.target → t.AtReference r →
      P ((k (r.held s.target x)).run t)) :
    P ((Script.xfer role (.read x) k).run s) := by
  obtain ⟨n, hn⟩ := h
  have hans := RefTarget.answer_read_cases { r with count := n } s.target x
  rw [← State.answer_reference hn] at hans
  obtain ⟨hne, ha⟩ | ha := hans
  · exact hfail hne _ (Script.run_err_atReference ⟨n, hn⟩ ha)
  · rw [Script.run_xfer_ok ha]
    refine hok _ (by simp) ?_ ⟨n + 1, ?_⟩ <;> simp [State.carry_reference_read hn]

/-- A write at the reference target leaves there what `RefTarget.write` says, or fails. -/
theorem Script.run_write_reference {role : Role} {x : XAddr} {d : Word} {k : Word → Script}
    (h : s.AtReference r) (hfail : r.failAt ≠ [] → ∀ t : State, t.AtReference r → P t)
    (hok : ∀ t : State, t.cfg = s.cfg → t.target = (r.write s.cfg s.target x d).2 →
      t.AtReference (r.write s.cfg s.target x d).1 → P ((k 0#32).run t)) :
    P ((Script.xfer role (.write x d) k).run s) := by
  obtain ⟨n, hn⟩ := h
  have hans := RefTarget.answer_write_cases { r with count := n } s.target x d
  rw [← State.answer_reference hn] at hans
  obtain ⟨hne, ha⟩ | ha := hans
  · exact hfail hne _ (Script.run_err_atReference ⟨n, hn⟩ ha)
  · rw [Script.run_xfer_ok ha]
    refine hok _ (by simp) ?_ ⟨n + 1, ?_⟩ <;>
      simp [State.carry_reference_write hn, RefTarget.write_withCount]

/-! ### The select sub-sequences (40_bank_selector.md R113 to R116) -/

theorem writeSelect_run_reference {a : Addr} {off : Offset} {next : Script}
    (h : s.AtReference r) (hfail : r.failAt ≠ [] → ∀ t : State, t.AtReference r → P t)
    (hok : ∀ t : State, t.cfg = s.cfg →
      t.target = { s.target with select := selVal s.cfg (lo32 a) off } → t.AtReference r →
      P (next.run t)) :
    P ((writeSelect s.cfg a off next).run s) := by
  refine Script.run_write_reference h hfail ?_
  rw [RefTarget.write_select]
  exact hok

theorem selectDP_run_reference {k : BitVec 4} {next : Script}
    (h : s.AtReference r) (hfail : r.failAt ≠ [] → ∀ t : State, t.AtReference r → P t)
    (hok : ∀ t : State, t.cfg = s.cfg → t.target = { s.target with select := k.setWidth 32 } →
      t.AtReference r → P (next.run t)) :
    P ((selectDP s.cfg k next).run s) := by
  refine Script.run_write_reference h hfail ?_
  rw [RefTarget.write_select, selVal_zero_offset]
  exact hok

/-- SELECT and SELECT1 of the reference target after an AP preamble. Where both have one address,
the fixture knows it as SELECT's. -/
def refApTarget (c : Cfg) (tgt : Target) (a : Addr) (off : Offset) : Target :=
  ⟨selVal c (lo32 a) off, if c.xaddrSelect1 = c.xaddrSelect then tgt.select1 else hi32 a⟩

/-- The three writes of an AP preamble store into no register but SELECT and SELECT1: the first one
exposes SELECT1 to the second (40_bank_selector.md R114). -/
theorem selectAP_run_reference {a : Addr} {off : Offset} {next : Script}
    (h : s.AtReference r) (hfail : r.failAt ≠ [] → ∀ t : State, t.AtReference r → P t)
    (hok : ∀ t : State, t.cfg = s.cfg → t.target = refApTarget s.cfg s.target a off →
      t.AtReference r → P (next.run t)) :
    P ((selectAP s.cfg a off next).run s) := by
  refine selectDP_run_reference h hfail fun s₁ hc₁ ht₁ h₁ => ?_
  have hexposed : select1Exposed s₁.cfg s₁.target = true := by
    simp [select1Exposed, hc₁, ht₁, bank_exposed]
  rw [← hc₁] at hok ⊢
  refine Script.run_write_reference h₁ hfail ?_
  rw [RefTarget.write_select1 r hexposed]
  intro s₂ hc₂ ht₂ h₂
  rw [← hc₂] at hok ⊢
  refine writeSelect_run_reference h₂ hfail fun s₃ hc₃ ht₃ h₃ => hok s₃ hc₃ ?_ h₃
  rw [ht₃, ht₂, ht₁, refApTarget, hc₂]
  split <;> rfl

end

end Sys2Proof.Machine
end

section
/-! SUPPORT. The obligations on the reference target (20_memory.md R67): which scripts keep its
registers, and what APWR and APRD do with the one register they name. -/

namespace Sys2Proof.Machine

/-! ### Scripts that store into no register but SELECT and SELECT1 -/

/-- Run at the reference target, the script leaves its registers and its log of writes as they are,
whatever fails. -/
def Script.KeepsRegisters (c : Cfg) (p : Script) : Prop :=
  ∀ (s : State) (r : RefTarget), s.cfg = c → s.AtReference r → (p.run s).AtReference r

section
variable {c : Cfg}

theorem Script.keepsRegisters_fail {q : Reason} : (Script.fail q).KeepsRegisters c :=
  fun _ _ _ h => State.raiseFail_atReference.2 h

theorem Script.keepsRegisters_ret {ok : Bool} {q : Reason} {cls : BitVec 4} {a : Addr} {d : Word} :
    (Script.ret ok q cls a d).KeepsRegisters c :=
  fun _ _ _ h => State.answerWith_atReference.2 h

theorem Script.KeepsRegisters.diag {k : Script} (hk : k.KeepsRegisters c) (w : PortWord) :
    (Script.diag w k).KeepsRegisters c := fun s => hk (s.emit w)

theorem Script.KeepsRegisters.bindV6 {k : Script} (hk : k.KeepsRegisters c) :
    (Script.bindV6 k).KeepsRegisters c := fun s => hk s.bindV6

theorem Script.KeepsRegisters.recordWidth {k : Script} (hk : k.KeepsRegisters c) (w : BitVec 7) :
    (Script.recordWidth w k).KeepsRegisters c := fun s => hk (s.recordWidth w)

theorem Script.KeepsRegisters.readWidth {k : BitVec 7 → Script}
    (hk : ∀ w, (k w).KeepsRegisters c) : (Script.readWidth k).KeepsRegisters c :=
  fun s => hk s.addrWidth s

theorem Script.KeepsRegisters.read {k : Word → Script} (hk : ∀ v, (k v).KeepsRegisters c)
    (role : Role) (x : XAddr) : (Script.xfer role (.read x) k).KeepsRegisters c :=
  fun _ r hc h => Script.run_read_reference (P := (·.AtReference r)) h (fun _ _ => id)
    fun t ht _ => hk _ t r (ht.trans hc)

theorem Script.KeepsRegisters.selectDP {next : Script} (hn : next.KeepsRegisters c)
    (k : BitVec 4) : (Machine.selectDP c k next).KeepsRegisters c := by
  rintro s r rfl h
  exact selectDP_run_reference (P := (·.AtReference r)) h (fun _ _ => id) fun t ht _ => hn t r ht

theorem Script.KeepsRegisters.writeSelect {next : Script} (hn : next.KeepsRegisters c)
    (a : Addr) (off : Offset) : (Machine.writeSelect c a off next).KeepsRegisters c := by
  rintro s r rfl h
  exact writeSelect_run_reference (P := (·.AtReference r)) h (fun _ _ => id) fun t ht _ => hn t r ht

theorem Script.KeepsRegisters.selectAP {next : Script} (hn : next.KeepsRegisters c)
    (a : Addr) (off : Offset) : (Machine.selectAP c a off next).KeepsRegisters c := by
  rintro s r rfl h
  exact selectAP_run_reference (P := (·.AtReference r)) h (fun _ _ => id) fun t ht _ => hn t r ht

theorem readBase_keepsRegisters {k : Addr → Script} (hk : ∀ raw, (k raw).KeepsRegisters c) :
    (readBase c k).KeepsRegisters c :=
  .selectDP (.read (fun _ => .selectDP (.read (fun _ => hk _) _ _) _) _ _) _

theorem readLane_keepsRegisters {k : Word → Script} (hk : ∀ v, (k v).KeepsRegisters c)
    (base : Addr) (i : Nat) : (readLane c base i k).KeepsRegisters c :=
  .selectAP (.read hk _ _) _ _

theorem probeVerdict_keepsRegisters (base : Addr) (n cidr : Word) :
    (probeVerdict c base n cidr).KeepsRegisters c := by
  unfold probeVerdict
  split
  · exact Script.keepsRegisters_ret
  · exact .diag Script.keepsRegisters_fail _

theorem probe_keepsRegisters (base : Addr) (n : Word) : (probe c base n).KeepsRegisters c := by
  refine readLane_keepsRegisters (fun v0 => ?_) base 0
  refine readLane_keepsRegisters (fun v1 => ?_) base 1
  refine readLane_keepsRegisters (fun v2 => ?_) base 2
  exact readLane_keepsRegisters (fun v3 => probeVerdict_keepsRegisters base n _) base 3

theorem initVerdict_keepsRegisters (raw : Addr) : (initVerdict c raw).KeepsRegisters c := by
  unfold initVerdict
  split
  · refine .readWidth fun w => ?_
    split
    · exact probe_keepsRegisters _ _
    · exact .diag Script.keepsRegisters_fail _
  · exact .diag Script.keepsRegisters_fail _

theorem initWidth_keepsRegisters (v : Word) : (initWidth c v).KeepsRegisters c := by
  refine .diag ?_ _
  split
  · exact .recordWidth (readBase_keepsRegisters initVerdict_keepsRegisters) _
  · exact Script.keepsRegisters_fail

theorem initScript_keepsRegisters : (initScript c).KeepsRegisters c :=
  .bindV6 (.selectDP (.read initWidth_keepsRegisters _ _) _)

theorem rdbaseScript_keepsRegisters : (rdbaseScript c).KeepsRegisters c :=
  readBase_keepsRegisters fun _ => Script.keepsRegisters_ret

theorem selbScript_keepsRegisters (hiv : Bool) (off : Offset) (addr : Addr) :
    (selbScript c hiv off addr).KeepsRegisters c := by
  cases hiv with
  | false => exact .writeSelect Script.keepsRegisters_ret addr off
  | true => exact .selectAP Script.keepsRegisters_ret addr off

end

/-- APWR alone writes elsewhere than to SELECT and SELECT1 (43_ap_access.md R172). -/
theorem scriptOf_keepsRegisters (c : Cfg) {i : Instr} (hi : i.command.op ≠ 5#4) :
    (scriptOf c i).KeepsRegisters c := by
  cases i with
  | selb hiv off addr data => exact selbScript_keepsRegisters hiv off addr
  | rdbase off addr data => exact rdbaseScript_keepsRegisters
  | init off addr data => exact initScript_keepsRegisters
  | aprd off addr data => exact .selectAP (.read (fun _ => Script.keepsRegisters_ret) _ _) _ _
  | apwr off addr data => exact absurd rfl hi
  | probe off addr data => exact probe_keepsRegisters addr data

/-- Presenting a command changes nothing while BUSY is 1, else runs its script. -/
theorem exec_cases {i : Instr} {s t : State} (h : exec i s = .next t) :
    t = s ∨ t = (scriptOf s.cfg i).run (s.accept (encode i)) := by
  rw [exec_next_iff] at h
  cases hb : s.busy with
  | true => exact .inl (by rw [h, State.perform_busy hb])
  | false => exact .inr (by rw [h, State.perform_idle hb])

/-- Settles O42: each of the five scripts keeps the registers. -/
theorem nonStoringOperationsLeaveTargetRegisters :
    Obligations.NonStoringOperationsLeaveTargetRegisters := by
  intro i s t r hi hr h
  have hkept : t.AtReference r := by
    have h0 := State.atReference hr
    obtain rfl | rfl := exec_cases h
    · exact h0
    · exact scriptOf_keepsRegisters s.cfg hi _ r rfl (State.accept_atReference.2 h0)
  obtain ⟨n, hn⟩ := hkept
  exact ⟨_, hn, fun _ => rfl, rfl, rfl⟩

/-! ### APWR and APRD -/

section
variable {P : State → Prop} {s : State} {r : RefTarget} {off : Offset} {addr : Addr} {data : Word}

/-- APWR writes with the preamble's values in SELECT and SELECT1 (43_ap_access.md R172). -/
theorem apwrScript_run_reference (h : s.AtReference r)
    (hfail : r.failAt ≠ [] → ∀ t : State, t.AtReference r → P t)
    (hok : ∀ t : State, t.AtReference
      (r.write s.cfg (refApTarget s.cfg s.target addr off) (xaddrOf off) data).1 →
      P (t.answerWith true .none 0#4 0#64 0#32)) :
    P ((apwrScript s.cfg off addr data).run s) := by
  refine selectAP_run_reference h hfail fun u hc ht hu => ?_
  refine Script.run_write_reference hu hfail fun v _ _ hv => ?_
  rw [hc, ht] at hv
  exact hok v hv

/-- APRD reads with the preamble's values in SELECT and SELECT1 (43_ap_access.md R171). -/
theorem aprdScript_run_reference (h : s.AtReference r)
    (hfail : r.failAt ≠ [] → ∀ t : State, t.AtReference r → P t)
    (hok : ∀ t : State, t.AtReference r → P (t.answerWith true .none 0#4 0#64
      (r.held (refApTarget s.cfg s.target addr off) (xaddrOf off)))) :
    P ((aprdScript s.cfg off addr).run s) := by
  refine selectAP_run_reference h hfail fun u _ ht hu => ?_
  refine Script.run_read_reference hu hfail fun v _ _ hv => ?_
  rw [ht]
  exact hok v hv

end

/-- An APWR leaves the reference target as it was, or stores the one register its key names. -/
theorem exec_apwr_reference {s t : State} {r : RefTarget} {off : Offset} {addr : Addr}
    {data : Word} (hr : s.AtReference r) (h : exec (.apwr off addr data) s = .next t) :
    t.AtReference r ∨
      t.AtReference (r.stored (refApTarget s.cfg s.target addr off) (xaddrOf off) data) := by
  obtain rfl | rfl := exec_cases h
  · exact .inl hr
  · refine apwrScript_run_reference (s := s.accept (encode (.apwr off addr data)))
      (P := fun t => t.AtReference r ∨
        t.AtReference (r.stored (refApTarget s.cfg s.target addr off) (xaddrOf off) data))
      (State.accept_atReference.2 hr) (fun _ _ => .inl) fun u hu => ?_
    rw [State.answerWith_atReference, State.answerWith_atReference]
    obtain hw | hw := r.write_cases s.cfg (refApTarget s.cfg s.target addr off) (xaddrOf off) data
    · exact .inl (hw ▸ hu)
    · exact .inr (hw ▸ hu)

/-- Settles O43: the one register APWR can store into is that of `RefTarget.stored`. -/
theorem apwrLeavesEveryOtherTargetRegister : Obligations.ApwrLeavesEveryOtherTargetRegister := by
  rintro s t r off addr data select1 hr h rfl
  obtain ⟨n, hn⟩ | ⟨n, hn⟩ := exec_apwr_reference (State.atReference hr) h
  · exact ⟨_, hn, rfl, .inl rfl, fun _ _ => rfl⟩
  · exact ⟨_, hn, rfl, .inr rfl, fun k hk => RegMap.get_set_other _ _ hk⟩

/-- The operation ended in success with `d` as its read data, and left the reference target as
`r`. -/
def State.Returned (t : State) (d : Word) (r : RefTarget) : Prop :=
  ∃ u : State, t = u.answerWith true .none 0#4 0#64 d ∧ u.AtReference r

theorem State.Returned.rsp {t : State} {d : Word} {r : RefTarget} (h : t.Returned d r) :
    t.rsp = ⟨true, 0#4, 0#4, t.addrWidth, 0#64, d⟩ := by
  obtain ⟨u, rfl, -⟩ := h
  simp [Reason.code]

theorem State.Returned.atReference {t : State} {d : Word} {r : RefTarget} (h : t.Returned d r) :
    t.AtReference r := by
  obtain ⟨u, rfl, hu⟩ := h
  exact State.answerWith_atReference.2 hu

/-- A host that is ready takes the response at once (30_encoding.md R91). -/
theorem State.Returned.busy {t : State} {d : Word} {r : RefTarget} (h : t.Returned d r)
    (hready : t.hostReady = true) : t.busy = false := by
  obtain ⟨u, rfl, -⟩ := h
  rw [State.answerWith_hostReady] at hready
  simp [hready]

section
variable {s t : State} {r : RefTarget} {off : Offset} {addr : Addr} {data : Word}

/-- An APWR to a register of its own, where nothing fails, stores it. -/
theorem exec_apwr_returned (hb : s.busy = false) (hr : s.AtReference r) (hfail : r.failAt = [])
    (hx : xaddrOf off ≠ s.cfg.xaddrSelect) (hx1 : xaddrOf off ≠ s.cfg.xaddrSelect1)
    (h : exec (.apwr off addr data) s = .next t) :
    t.Returned 0#32 (r.stored (refApTarget s.cfg s.target addr off) (xaddrOf off) data) := by
  rw [exec_next_iff, State.perform_idle hb] at h
  have hstore := r.write_register (refApTarget s.cfg s.target addr off) hx hx1 data
  rw [h]
  exact apwrScript_run_reference (P := (State.Returned · _ _)) (State.accept_atReference.2 hr)
    (absurd hfail) fun u hu => ⟨u, rfl, by simpa [hstore] using hu⟩

/-- An APRD, where nothing fails, answers what the register its key names holds. -/
theorem exec_aprd_returned (hb : s.busy = false) (hr : s.AtReference r) (hfail : r.failAt = [])
    (h : exec (.aprd off addr data) s = .next t) :
    t.Returned (r.held (refApTarget s.cfg s.target addr off) (xaddrOf off)) r := by
  rw [exec_next_iff, State.perform_idle hb] at h
  rw [h]
  exact aprdScript_run_reference (P := (State.Returned · _ _)) (State.accept_atReference.2 hr)
    (absurd hfail) fun u hu => ⟨u, rfl, hu⟩

end

/-- Settles O44: APWR stores the register whose key APRD then reads. -/
theorem readBackOnTheReferenceTarget : Obligations.ReadBackOnTheReferenceTarget := by
  intro s t u r off addr data d' hb hready hr hwf hfail hne hx hx1 hw hrd
  obtain ⟨hwidth, -, -, hcfg, -, hready'⟩ :=
    onlyInitWritesSessionRegisters (.apwr off addr data) s t (by simp [Instr.command]) (.inl hw)
  obtain ⟨hwidth', -⟩ := onlyInitWritesSessionRegisters (.aprd off addr d') t u
    (by simp [Instr.command]) (.inl hrd)
  have hstored := exec_apwr_returned hb (State.atReference hr) hfail hx hx1 hw
  have hread := exec_aprd_returned (hstored.busy (hready'.trans hready)) hstored.atReference
    hfail hrd
  have hkey : refApTarget t.cfg t.target addr off = refApTarget s.cfg s.target addr off := by
    simp [refApTarget, hcfg, hne]
  rw [hkey] at hread
  refine ⟨by rw [hstored.rsp], ?_⟩
  rw [hread.rsp, hwidth', hwidth, RefTarget.held_stored hwf]

end Sys2Proof.Machine
end

section
/-! SUPPORT. The obligations on words (30_encoding.md): a command word and the operation it names,
and the fields of a response word and of a diagnostic word. -/

namespace Sys2Proof

/-! ### Command words (30_encoding.md R80 to R84) -/

/-- The decoder refuses exactly the fields of R84's list, whichever it finds first. -/
theorem Command.decode_eq_error_iff (c : Command) : (∃ e, c.decode = .error e) ↔
    c.op.toNat = 0 ∨ 7 ≤ c.op.toNat ∨ c.rsv ≠ 0#11 ∨ c.hiv = true ∧ c.op.toNat ≠ 1 := by
  unfold Command.decode
  split_ifs with hop hrsv hhiv
  · simpa using hop.elim .inl fun h => .inr (.inl h)
  · simp [hrsv]
  · simp [hhiv]
  · have hlegal : ¬ (c.op.toNat = 0 ∨ 7 ≤ c.op.toNat ∨ c.rsv ≠ 0#11 ∨
        c.hiv = true ∧ c.op.toNat ≠ 1) := by tauto
    simp only [hlegal, iff_false, not_exists]
    intro e
    split <;> nofun

/-- Fields that decode are those the operation is presented with: RSV is 0, and HIV is 0 but in
SELB. -/
theorem command_of_decode {c : Command} {i : Instr} (h : c.decode = .ok i) : i.command = c := by
  have hop := Machine.command_op_of_decode h
  obtain ⟨op, hiv, rsv, off, addr, data⟩ := c
  unfold Command.decode at h
  split_ifs at h with hcode hrsv hhiv
  obtain rfl : rsv = 0#11 := by simpa using hrsv
  have hlow : op ≠ 1#4 → hiv = false := by
    intro hne
    have : op.toNat ≠ 1 := fun h1 => hne (BitVec.eq_of_toNat_eq h1)
    simpa [this] using hhiv
  split at h
  all_goals
    injection h with h
    subst h
    simp only [Instr.command] at hop ⊢
    subst hop
  case h_1 => rfl
  all_goals rw [hlow (by decide)]

/-- Every operation is well-formed: its constructors have no place for an illegal field. -/
theorem Instr.wellFormed_eq_true (i : Instr) : i.wellFormed = true := by
  cases i with
  | selb hiv off addr data => exact (Laws.EncodesLegally.selb hiv off addr data).1
  | rdbase off addr data => exact (Laws.EncodesLegally.rdbase off addr data).1
  | init off addr data => exact (Laws.EncodesLegally.init off addr data).1
  | aprd off addr data => exact (Laws.EncodesLegally.aprd off addr data).1
  | apwr off addr data => exact (Laws.EncodesLegally.apwr off addr data).1
  | probe off addr data => exact (Laws.EncodesLegally.probe off addr data).1

theorem decode_encode (i : Instr) : decode (encode i) = .ok i := by
  rw [decode, encode, Command.ofWord_word, Machine.decode_command]

/-- A word decodes to an operation exactly if it is the word of that operation. -/
theorem decode_eq_ok_iff {w : PortWord} {i : Instr} : decode w = .ok i ↔ encode i = w := by
  refine ⟨fun h => ?_, fun h => h ▸ decode_encode i⟩
  rw [encode, command_of_decode h, Command.word_ofWord]

/-- Settles O1: the fields of an operation survive the word and decode to the operation. -/
theorem decodeInvertsEncode : Obligations.DecodeInvertsEncode := fun i _ => decode_encode i

/-- Settles O2: fields that decode are those of the operation, and a word is made of its fields. -/
theorem encodeInvertsDecode : Obligations.EncodeInvertsDecode :=
  fun _ i h => ⟨decode_eq_ok_iff.1 h, i.wellFormed_eq_true⟩

/-- Settles O3: `Command.decode_eq_error_iff` on the fields of the word. -/
theorem decodeRejectsExactlyTheIllegalWords :
    Obligations.DecodeRejectsExactlyTheIllegalWords := by
  intro w
  rw [decode, Command.decode_eq_error_iff]
  simp [Command.ofWord, BitVec.toNat_eq, BitVec.le_def]

/-- Settles O4: each word is the encoding of its command. -/
theorem workedEncodingsDecode : Obligations.WorkedEncodingsDecode := by
  simp only [Obligations.WorkedEncodingsDecode, decode_eq_ok_iff]
  decide

end Sys2Proof

namespace Sys2Proof.Machine

/-! ### Response and diagnostic words (30_encoding.md R85, R92)

The widths stay sums, as the words are appended, so that a cut finds the field it falls in. -/

theorem Response.extractLsb'_word (r : Response) (start len : Nat) :
    r.word.extractLsb' start len =
      BitVec.extractLsb' (n := 1 + (4 + (4 + (7 + (16 + (64 + 32)))))) start len
        (BitVec.ofBool r.ok ++
          (r.reason ++ (r.cls ++ (r.width ++ (0#16 ++ (r.raddr ++ r.rdata)))))) := rfl

theorem diagWord_extractLsb' (k : DiagKind) (q : Reason) (base : Addr) (info : Word)
    (start len : Nat) : (diagWord k q base info).extractLsb' start len =
      BitVec.extractLsb' (n := 4 + (4 + (24 + (64 + 32)))) start len
        (k.code ++ (q.code ++ (0#24 ++ (base ++ info)))) := rfl

/-- Settles O5: each cut falls in one appended field; OK is the top bit. -/
theorem responseWordHoldsItsFields : Obligations.ResponseWordHoldsItsFields := by
  intro r
  refine ⟨?_, ?_⟩
  · have hok : r.word.extractLsb' 127 1 = BitVec.ofBool r.ok := by
      simp [Response.extractLsb'_word, BitVec.extractLsb'_append_eq_of_le, -Nat.reduceAdd]
    simpa using congrArg (BitVec.getLsbD · 0) hok
  · simp [Response.extractLsb'_word, BitVec.extractLsb'_append_eq_of_le,
      BitVec.extractLsb'_append_eq_of_add_le, -Nat.reduceAdd]

/-- Settles O6: each cut falls in one appended field, and the codes are those of R92 and R86. -/
theorem diagnosticWordHoldsItsFields : Obligations.DiagnosticWordHoldsItsFields := by
  intro k q base info
  simp only [diagWord_extractLsb']
  refine ⟨?_, ?_, ?_⟩
  · cases k <;> simp [BitVec.extractLsb'_append_eq_of_le, DiagKind.code, -Nat.reduceAdd]
  · cases q <;> simp [BitVec.extractLsb'_append_eq_of_le, BitVec.extractLsb'_append_eq_of_add_le,
      Reason.code, -Nat.reduceAdd]
  · simp [BitVec.extractLsb'_append_eq_of_le, BitVec.extractLsb'_append_eq_of_add_le,
      -Nat.reduceAdd]

end Sys2Proof.Machine
end

section
/-! SUPPORT. The obligations on the command, response and diagnostic ports (30_encoding.md R84 to
R92): what is presented, counted and answered in a step. -/

namespace Sys2Proof.Machine

/-! ### Commands and responses add up (30_encoding.md R91) -/

@[simp] theorem accepts_append (es fs : List Event) :
    accepts (es ++ fs) = accepts es + accepts fs := by
  induction es with
  | nil => simp [accepts]
  | cons e es ih => cases e <;> simp [accepts, ih, Nat.add_right_comm]

@[simp] theorem responses_append (es fs : List Event) :
    responses (es ++ fs) = responses es + responses fs := by
  induction es with
  | nil => simp [responses]
  | cons e es ih => cases e <;> simp [responses, ih, Nat.add_right_comm]

@[simp] theorem abandons_append (es fs : List Event) :
    abandons (es ++ fs) = abandons es + abandons fs := by
  induction es with
  | nil => simp [abandons]
  | cons e es ih =>
    cases e with
    | reset abandoned landed => cases abandoned <;> simp [abandons, ih, Nat.add_right_comm]
    | _ => simp [abandons, ih]

/-- The operation in flight is accounted for: it is the one command without a response. -/
def State.InFlight (s : State) : Prop :=
  s.busy = true ∧ accepts s.log = responses s.log + abandons s.log + 1

theorem State.InFlight.accounted {s : State} (h : s.InFlight) : s.Accounted := by
  simp [State.Accounted, h.1, h.2]

theorem State.Accounted.inFlight {s : State} (h : s.Accounted) (hb : s.busy = true) :
    s.InFlight := ⟨hb, by simpa [State.Accounted, hb] using h⟩

/-- Taking a command word puts its operation in flight. -/
theorem State.Accounted.inFlight_of_accept {s t : State} {w : PortWord} (h : s.Accounted)
    (hs : s.busy = false) (ht : t.busy = true) (hlog : t.log = s.log ++ [.accept w]) :
    t.InFlight := by
  refine ⟨ht, ?_⟩
  have : accepts s.log = responses s.log + abandons s.log := by simpa [State.Accounted, hs] using h
  simp [hlog, accepts, responses, abandons, this]

/-- An operation in flight whose response is offered has had it or is still in flight. -/
theorem State.InFlight.offer {s : State} (h : s.InFlight) : s.offer.Accounted := by
  obtain ⟨-, heq⟩ | ⟨-, heq⟩ := s.offer_cases <;> rw [heq]
  · simp [State.Accounted, accepts, responses, abandons, h.2, Nat.add_right_comm]
  · exact h.accounted

theorem State.InFlight.finish {s : State} (h : s.InFlight) (r : Response) :
    (s.finish r).Accounted := State.InFlight.offer h

/-- A transaction answers no command and abandons none. -/
theorem State.InFlight.answered {s : State} (h : s.InFlight) (role : Role) (r : Request)
    (a : Answer) : (s.answered role r a).InFlight := by
  simpa [State.InFlight, accepts, responses, abandons] using h

theorem Script.run_accounted (p : Script) {s : State} (h : s.InFlight) : (p.run s).Accounted := by
  refine Script.run_induction (P := State.InFlight) (Q := State.Accounted)
    ?_ ?_ ?_ ?_ ?_ ?_ ?_ ?_ p s h
  · exact fun t role r v h => h.answered role r (.ok v)
  · exact fun t h => h
  · exact fun t w h => h
  · intro t w h; simpa [State.InFlight, accepts, responses, abandons] using h
  · exact fun t role r l h => (h.answered role r (.err l)).finish _
  · exact fun t taken h => h.accounted
  · exact fun t q h => h.finish _
  · exact fun t ok q cls a d h => h.finish _

theorem State.InFlight.resume {s t : State} (h : s.InFlight) (hr : s.resume = some t) :
    t.Accounted := by
  obtain ⟨-, rfl⟩ | ⟨vs, i, -, -, -, rfl⟩ := State.resume_cases_script hr
  · exact h.offer
  · exact Script.run_accounted _ h

/-- Settles O48: the count at each way a step can go; a reset abandons the operation in flight. -/
theorem everyCommandHasOneResponse : Obligations.EveryCommandHasOneResponse := by
  refine ⟨rfl, fun s t h hstep => ?_⟩
  obtain ⟨landed, rest, tgt, -, rfl⟩ | ⟨rest, hm⟩ := step_cases hstep
  · cases hb : s.busy <;>
      simpa [State.Accounted, accepts, responses, abandons, hb, Nat.add_assoc] using h
  have hu : (s.begun rest).Accounted := h
  generalize s.begun rest = u at hu hm
  cases hm with
  | waits hb => exact hu
  | goesOn hb hr => exact (hu.inFlight hb).resume hr
  | accepts i hb hr =>
    exact (hu.inFlight_of_accept hb (by simp) (u.launched_log i)).resume hr
  | rejects w hb =>
    rw [State.rejectWord_idle hb]
    exact (hu.inFlight_of_accept hb (by simp) (u.take_log w)).finish _
  | ready b => exact hu
  | otherUsers a b => simpa [State.Accounted, accepts, responses, abandons] using hu
  | targetChange a b x v => simpa [State.Accounted, accepts, responses, abandons] using hu

/-! ### The diagnostic port (30_encoding.md R91, R92) -/

@[simp] theorem State.launched_diagOut (s : State) (i : Instr) :
    (s.launched i).diagOut = s.diagOut := by simp [State.launched_eq]

/-- The port presents the diagnostics among the events since `past`, and nothing else. -/
def State.PresentsSince (past : List Event) (s : State) : Prop :=
  ∃ es, s.log = past ++ es ∧ s.diagOut = diags es

theorem State.presentsSince_begun (s : State) (rest : List Input) :
    (s.begun rest).PresentsSince s.log := ⟨[], by simp, rfl⟩

/-- Presentation follows the log: events are appended, and their diagnostics to the port. -/
theorem State.PresentsSince.append {past es : List Event} {s t : State}
    (h : s.PresentsSince past) (hlog : t.log = s.log ++ es)
    (hdiag : t.diagOut = s.diagOut ++ diags es) : t.PresentsSince past := by
  obtain ⟨fs, hl, hd⟩ := h
  exact ⟨fs ++ es, by simp [hlog, hl], by simp [hdiag, hd]⟩

theorem State.PresentsSince.offer {past : List Event} {s : State} (h : s.PresentsSince past) :
    s.offer.PresentsSince past := by
  obtain ⟨-, heq⟩ | ⟨-, heq⟩ := s.offer_cases <;> rw [heq]
  · exact h.append (es := [.response s.rsp.word]) rfl (by simp [diags])
  · exact h

theorem State.PresentsSince.finish {past : List Event} {s : State} (h : s.PresentsSince past)
    (r : Response) : (s.finish r).PresentsSince past :=
  State.PresentsSince.offer (s := { s with rsp := r, seq := .responding }) h

theorem State.PresentsSince.answered {past : List Event} {s : State} (h : s.PresentsSince past)
    (role : Role) (r : Request) (a : Answer) : (s.answered role r a).PresentsSince past :=
  h.append (s.answered_log role r a) (by simp [diags])

theorem Script.run_presentsSince (p : Script) {past : List Event} {s : State}
    (h : s.PresentsSince past) : (p.run s).PresentsSince past := by
  refine Script.run_induction (P := State.PresentsSince past) (Q := State.PresentsSince past)
    ?_ ?_ ?_ ?_ ?_ ?_ ?_ ?_ p s h
  · exact fun t role r v h => h.answered role r (.ok v)
  · exact fun t h => h
  · exact fun t w h => h
  · exact fun t w h => h.append (t.emit_log w) rfl
  · exact fun t role r l h => (h.answered role r (.err l)).finish _
  · exact fun t taken h => h
  · exact fun t q h => h.finish _
  · exact fun t ok q cls a d h => h.finish _

theorem State.PresentsSince.resume {past : List Event} {s t : State} (h : s.PresentsSince past)
    (hr : s.resume = some t) : t.PresentsSince past := by
  obtain ⟨-, rfl⟩ | ⟨vs, i, -, -, -, rfl⟩ := State.resume_cases_script hr
  · exact h.offer
  · exact Script.run_presentsSince _ h

/-- A step presents the diagnostics among the events it adds. -/
theorem step_presentsSince {s t : State} (h : step s = .next t) : t.PresentsSince s.log := by
  obtain ⟨landed, rest, tgt, -, rfl⟩ | ⟨rest, hm⟩ := step_cases h
  · exact ⟨[.reset s.busy landed], rfl, rfl⟩
  have hu := s.presentsSince_begun rest
  generalize s.begun rest = u at hu hm
  cases hm with
  | waits hb => exact hu
  | goesOn hb hr => exact hu.resume hr
  | accepts i hb hr =>
    have hl : (u.launched i).PresentsSince s.log := hu.append (u.launched_log i) (by simp [diags])
    exact hl.resume hr
  | rejects w hb =>
    have hl : (u.take w).PresentsSince s.log := hu.append (u.take_log w) (by simp [diags])
    rw [State.rejectWord_idle hb]
    exact hl.finish _
  | ready b => exact hu
  | otherUsers a b => exact hu.append (u.interfere_log a b) (by simp [diags])
  | targetChange a b x v => exact hu.append (u.targetChange_log a b x v) (by simp [diags])

/-- Settles O56: `step_presentsSince`, the events added being what follows the old log. -/
theorem diagnosticsArePresentedOnce : Obligations.DiagnosticsArePresentedOnce := by
  intro s t h
  obtain ⟨es, hlog, hdiag⟩ := step_presentsSince h
  rw [hdiag, hlog, List.drop_left]

/-! ### A command presented to an idle BSE -/

/-- The step takes the command off the inputs and presents it (30_encoding.md R91). -/
theorem step_command_idle {s : State} {w : PortWord} {rest : List Input} (hc : s.cfg.wf = true)
    (hb : s.busy = false) (hi : s.inputs = .command w :: rest) :
    step s = present w (s.begun rest) := by
  simp [step, hc, move, hi, hb, State.begun]

/-- Settles O14: the command is presented, and a legal one is executed. -/
theorem stepRunsTheDecodedCommand : Obligations.StepRunsTheDecodedCommand := by
  intro s w rest i hc hb hi hd
  rw [step_command_idle hc hb hi, present, hd]
  rfl

/-- The end of an operation, field by field (30_encoding.md R85, R91). -/
theorem State.finish_eq (s : State) (r : Response) : s.finish r = { s with
    rsp := r
    busy := s.busy && !s.hostReady
    seq := if s.hostReady then .idle else .responding
    log := s.log ++ if s.hostReady then [.response r.word] else [] } := by
  cases h : s.hostReady <;> simp [State.finish, State.offer, h]

/-- Settles O16: the decoder refuses the word, and rejecting it is taking it and failing at once. -/
theorem illegalWordIsAnsweredWithoutEffect : Obligations.IllegalWordIsAnsweredWithoutEffect := by
  intro s w rest hc hb hi hill
  obtain ⟨e, hd⟩ := (decodeRejectsExactlyTheIllegalWords w).2 hill
  have hidle : (s.begun rest).busy = false := hb
  rw [step_command_idle hc hb hi, present, hd, State.rejectWord_idle hidle, State.raiseFail_eq,
    State.finish_eq]
  cases hr : s.hostReady <;>
    simp [State.take, State.begun, State.beginStep, failResponse, Reason.code, hr]

/-! ### An operation whose transactions succeed -/

/-- `s` in the middle of the operation `i`: `evs` passed the ports, the target side stands at `tgt`,
the open transport's list at `rest`, and the transactions returned `vs`. -/
def State.reached (s : State) (i : Instr) (evs : List Event) (tgt : Target) (rest : List Answer)
    (vs : List Word) : State :=
  { s with
    cmd := latchesOf i
    busy := true
    seq := .running vs
    diagOut := s.diagOut ++ diags evs
    target := tgt
    transport := .live rest
    reqTaken := false
    waits := 0
    log := s.log ++ .accept (encode i) :: evs }

/-- Acceptance reaches the start of the operation (10_state.md R21, 30_encoding.md R91). -/
theorem State.accept_eq_reached {s : State} {as : List Answer} (h : s.transport = .live as)
    (i : Instr) : s.accept (encode i) = s.reached i [] s.target as [] := by
  have hcmd := s.accept_encode_cmd i
  simp only [State.accept, State.take] at hcmd ⊢
  simp [hcmd, State.reached, diags, ← h]

/-- A successful transaction reaches the next position (20_memory.md R51, R62). -/
theorem Script.run_xfer_reached (s : State) (i : Instr) (evs : List Event) (tgt : Target) (v : Word)
    (rest : List Answer) (vs : List Word) (role : Role) (r : Request) (k : Word → Script) :
    (Script.xfer role r k).run (s.reached i evs tgt (.ok v :: rest) vs) =
      (k (r.value v)).run (s.reached i (evs ++ [.xfer r (Answer.seen r (.ok v))])
        (tgt.land s.cfg (s.log ++ .accept (encode i) :: evs) role r) rest
        (vs ++ [r.value v])) := by
  rw [Script.run_xfer_ok (State.answer_live rfl r), State.answered_live rfl]
  simp [State.reached, State.advance, Answer.lands, diags]

/-- The end of the operation (30_encoding.md R85, R91). -/
theorem State.finish_reached (s : State) (i : Instr) (evs : List Event) (tgt : Target)
    (rest : List Answer) (vs : List Word) (r : Response) :
    (s.reached i evs tgt rest vs).finish r = s.completed i evs tgt rest r := by
  rw [State.finish_eq]
  cases h : s.hostReady <;> simp [State.reached, State.completed, h]

/-- SELB without extension is one write of SELECT (40_bank_selector.md R117). -/
theorem exec_selb_without_extension {s : State} {a : Word} {rest : List Answer}
    (hb : s.busy = false) (ht : s.transport = .live (.ok a :: rest)) (off : Offset) (addr : Addr)
    (data : Word) : exec (.selb false off addr data) s =
      .next (s.completed (.selb false off addr data)
        [evSelect s.cfg (selVal s.cfg (lo32 addr) off)]
        ⟨selVal s.cfg (lo32 addr) off, s.target.select1⟩ rest
        ⟨true, 0#4, 0#4, s.addrWidth, 0#64, 0#32⟩) := by
  rw [exec_eq_perform, State.perform_idle hb, State.accept_eq_reached ht]
  refine congrArg _ ((Script.run_xfer_reached ..).trans ?_)
  exact State.finish_reached ..

theorem lo32_setWidth (k : BitVec 4) : lo32 (k.setWidth 64) = k.setWidth 32 := by
  simp [lo32, BitVec.toNat_eq]

/-- Settles O19: SELDP is SELB without extension at offset 0, where `SelVal` is the address. -/
theorem seldpSelectsTheBank : Obligations.SeldpSelectsTheBank := by
  intro s k a rest hb ht
  have h := exec_selb_without_extension hb ht 0#16 (k.setWidth 64) 0#32
  rwa [selVal_zero_offset, lo32_setWidth] at h

/-! ### A presented response -/

/-- In a step without a move from outside BSE goes on or waits (log 2). -/
theorem step_quiet {s : State} {rest : List Input} (hc : s.cfg.wf = true)
    (hi : s.inputs = .quiet :: rest) : step s = goOn (s.begun rest) := by
  simp [step, hc, move, hi, State.begun]

/-- Settles O52: the end of a run says what is left where `rsp_ready` is 0; a presented response is
offered again. -/
theorem responseWaitsForTheHost : Obligations.ResponseWaitsForTheHost := by
  refine ⟨fun i s t hb hr hx he => ?_, fun s rest hc hb hs hi => ?_⟩
  · rw [exec_next_iff, State.perform_idle hb] at hx
    have hends := Script.run_ends (scriptOf s.cfg i) (s.accept (encode i)) rfl ⟨[], rfl⟩
    rw [← hx] at hends
    obtain ⟨-, -, hr'⟩ | ⟨hb', hq, -⟩ | ⟨-, vs, hq⟩ := hends
    · simp [hr] at hr'
    · exact ⟨by simp [State.rspValid, hq], hb'⟩
    · exact absurd hq (he vs)
  · have hresume : (s.begun rest).resume = some (s.begun rest).offer := by
      simp [State.resume, State.begun, State.beginStep, hs]
    rw [step_quiet hc hi, goOn, if_pos (show (s.begun rest).busy = true from hb), hresume]
    rfl

end Sys2Proof.Machine
end

section
/-! SUPPORT. The responses an operation can end with (30_encoding.md R85, R86): every end of its
script, and a failing transaction, gives one that satisfies a predicate. -/

namespace Sys2Proof.Machine

/-- Every response this script may end with satisfies `R`, which is given ADDR_WIDTH as well. -/
def Script.Answers (R : BitVec 7 → Response → Prop) : Script → Prop
  | .xfer _ _ k => (∀ w, R w (failResponse .eTransport w)) ∧ ∀ v, (k v).Answers R
  | .bindV6 k => k.Answers R
  | .recordWidth _ k => k.Answers R
  | .readWidth k => ∀ w, (k w).Answers R
  | .diag _ k => k.Answers R
  | .fail q => ∀ w, R w (failResponse q w)
  | .ret ok q cls a d => ∀ w, R w ⟨ok, q.code, cls, w, a, d⟩

theorem Script.Answers.after {R : BitVec 7 → Response → Prop} {p : Script} (hp : p.Answers R)
    (w : BitVec 7) (vs : List Word) : (p.after w vs).Answers R := by
  induction p generalizing vs with
  | xfer role r k ih =>
    cases vs with
    | nil => exact hp
    | cons v vs => exact ih v (hp.2 v) vs
  | bindV6 k ih => exact ih hp vs
  | recordWidth w' k ih => exact ih hp vs
  | readWidth k ih => exact ih w (hp w) vs
  | diag w' k ih => exact ih hp vs
  | fail q => exact hp
  | ret ok q cls a d => exact hp

/-- A run that ends its operation leaves one of the responses of the script. -/
theorem Script.Answers.run {R : BitVec 7 → Response → Prop} {p : Script} (hp : p.Answers R)
    {s : State} {vs : List Word} (hs : s.seq = .running vs) (he : (p.run s).Ended) :
    R (p.run s).addrWidth (p.run s).rsp := by
  induction p generalizing s vs with
  | xfer role r k ih =>
    cases h : s.answer r with
    | ok v =>
      rw [Script.run_xfer_ok h] at he ⊢
      exact ih _ (hp.2 _) (vs := vs ++ [r.value v]) (by simp [State.advance, hs]) he
    | err l => simpa [Script.run_xfer_err h] using hp.1 s.addrWidth
    | silent taken =>
      rw [Script.run_xfer_silent h] at he
      exact absurd hs (he vs)
  | bindV6 k ih => exact ih hp (s := s.bindV6) hs he
  | recordWidth w k ih => exact ih hp (s := s.recordWidth w) hs he
  | readWidth k ih => exact ih _ (hp _) hs he
  | diag w k ih => exact ih hp (s := s.emit w) hs he
  | fail q => simpa [Script.run] using hp s.addrWidth
  | ret ok q cls a d => simpa [Script.run] using hp s.addrWidth

/-- An operation that ends, in the step that accepts it or in a later one, leaves one of the
responses of its script. -/
theorem State.Runs.answers {R : BitVec 7 → Response → Prop} {s t : State} {i : Instr}
    (h : s.Runs i t) (he : t.Ended) (hp : ∀ c, (scriptOf c i).Answers R) :
    R t.addrWidth t.rsp := by
  obtain ⟨u, vs, hs, hl, hr⟩ : ∃ (u : State) (vs : List Word), u.seq = .running vs ∧
      u.latched = .ok i ∧ u.resume = some t := by
    obtain ⟨hb, hx⟩ | ⟨hrun, hl, hr⟩ := h
    · exact ⟨s.launched i, [], s.launched_seq i, s.launched_latched i,
        (exec_idle_iff_resume hb).1 hx⟩
    · obtain ⟨vs, hs⟩ : ∃ vs, s.seq = .running vs := by simpa [State.Ended] using hrun
      exact ⟨s, vs, hs, hl, hr⟩
  obtain ⟨hresp, -⟩ | ⟨_, j, -, hj, -, rfl⟩ := State.resume_cases_script hr
  · rw [hs] at hresp; cases hresp
  · obtain rfl : i = j := by rw [hl] at hj; injection hj
    exact ((hp _).after _ _).run hs he

/-! ### Consistent responses (30_encoding.md R85, R86, 60_exceptions.md R211, R214) -/

/-- WIDTH is ADDR_WIDTH, REASON is 0 exactly on success and not reserved, and only code 5 carries
results on a failure. -/
def Response.Consistent (w : BitVec 7) (r : Response) : Prop :=
  r.width = w ∧ (r.ok = true ↔ r.reason = 0#4) ∧ r.reason.toNat ≤ 7 ∧
  (r.ok = false → r.reason ≠ 5#4 → r.cls = 0#4 ∧ r.raddr = 0#64 ∧ r.rdata = 0#32)

theorem Reason.code_eq_zero_iff {q : Reason} : q.code = 0#4 ↔ q = .none := by
  cases q <;> decide

theorem failResponse_consistent {q : Reason} (hq : q ≠ .none) (w : BitVec 7) :
    (failResponse q w).Consistent w :=
  ⟨rfl, by simpa [failResponse, Reason.code_eq_zero_iff] using hq, q.code_le,
    fun _ _ => ⟨rfl, rfl, rfl⟩⟩

/-- A success carries any results. -/
theorem consistent_success (w : BitVec 7) (cls : BitVec 4) (a : Addr) (d : Word) :
    Response.Consistent w ⟨true, Reason.none.code, cls, w, a, d⟩ :=
  ⟨rfl, by simp [Reason.code], Reason.code_le _, nofun⟩

/-- So does the dispatch stub (44_component_probe.md R197). -/
theorem consistent_dispatch (w : BitVec 7) (cls : BitVec 4) (a : Addr) (d : Word) :
    Response.Consistent w ⟨false, Reason.eDispatchUnimplemented.code, cls, w, a, d⟩ :=
  ⟨rfl, by simp [Reason.code], Reason.code_le _, fun _ h => absurd rfl h⟩

/-- A script that ends with consistent responses only. -/
abbrev Script.Consistent (p : Script) : Prop := p.Answers Response.Consistent

theorem Script.consistent_xfer {role : Role} {r : Request} {k : Word → Script} :
    (Script.xfer role r k).Consistent ↔ ∀ v, (k v).Consistent :=
  and_iff_right (failResponse_consistent nofun)

@[simp] theorem selectDP_consistent {c : Cfg} {k : BitVec 4} {next : Script} :
    (selectDP c k next).Consistent ↔ next.Consistent := by
  simp [selectDP, Script.consistent_xfer]

@[simp] theorem writeSelect1_consistent {c : Cfg} {a : Addr} {next : Script} :
    (writeSelect1 c a next).Consistent ↔ next.Consistent := by
  simp [writeSelect1, Script.consistent_xfer]

@[simp] theorem writeSelect_consistent {c : Cfg} {a : Addr} {off : Offset} {next : Script} :
    (writeSelect c a off next).Consistent ↔ next.Consistent := by
  simp [writeSelect, Script.consistent_xfer]

@[simp] theorem selectAP_consistent {c : Cfg} {a : Addr} {off : Offset} {next : Script} :
    (selectAP c a off next).Consistent ↔ next.Consistent := by
  simp [selectAP]

theorem readBase_consistent {c : Cfg} {k : Addr → Script} (hk : ∀ raw, (k raw).Consistent) :
    (readBase c k).Consistent := by
  simp [readBase, Script.consistent_xfer, hk]

theorem probe_consistent (c : Cfg) (base : Addr) (n : Word) : (probe c base n).Consistent := by
  simp only [probe, readLane, selectAP_consistent, Script.consistent_xfer]
  intro v0 v1 v2 v3
  unfold probeVerdict
  split
  · exact fun w => consistent_dispatch w _ _ _
  · exact failResponse_consistent nofun

theorem initVerdict_consistent (c : Cfg) (raw : Addr) : (initVerdict c raw).Consistent := by
  unfold initVerdict
  split
  · intro w
    dsimp only
    split
    · exact probe_consistent c _ _
    · exact failResponse_consistent nofun
  · exact failResponse_consistent nofun

theorem initWidth_consistent (c : Cfg) (v : Word) : (initWidth c v).Consistent := by
  change (if _ then _ else _ : Script).Consistent
  split
  · exact readBase_consistent (initVerdict_consistent c)
  · exact failResponse_consistent nofun

theorem initScript_consistent (c : Cfg) : (initScript c).Consistent := by
  change (selectDP c c.bankDpidr1 (.xfer .access (.read c.xaddrDpidr1) (initWidth c))).Consistent
  rw [selectDP_consistent, Script.consistent_xfer]
  exact initWidth_consistent c

theorem scriptOf_consistent (c : Cfg) (i : Instr) : (scriptOf c i).Consistent := by
  have hok : ∀ cls a d, (Script.ret true .none cls a d).Consistent :=
    fun cls a d w => consistent_success w cls a d
  cases i with
  | selb hiv off addr data => cases hiv <;> simp [scriptOf, selbScript, hok]
  | rdbase off addr data =>
    exact readBase_consistent (k := fun raw => .ret true .none 0#4 raw 0#32) fun raw => hok _ raw _
  | init off addr data => exact initScript_consistent c
  | aprd off addr data => simp [scriptOf, aprdScript, Script.consistent_xfer, hok]
  | apwr off addr data => simp [scriptOf, apwrScript, Script.consistent_xfer, hok]
  | probe off addr data => exact probe_consistent c addr data

/-- Settles O36: every script ends with consistent responses only, in whichever step. -/
theorem responseFieldsAreConsistent : Obligations.ResponseFieldsAreConsistent :=
  fun i _ _ h he => h.answers he fun c => scriptOf_consistent c i

end Sys2Proof.Machine
end

section
/-! SUPPORT. The obligations on the bank selector (40_bank_selector.md): the encoder of SELECT
values, the offsets of component registers, the AP preamble and SELB. -/

namespace Sys2Proof.Machine

/-! ### `SelVal` (40_bank_selector.md R110, R111) -/

/-- `SelVal` without `BankOf`: each mask of R111 lies in the mask of R110. -/
theorem selVal_eq (c : Cfg) (lo : Word) (off : Offset) : selVal c lo off =
    lo ||| ((off &&& c.apBankHiMask) >>> 4).setWidth 32
      ||| (off &&& c.apBankLoMask).setWidth 32 := by
  have hhi : bankOf c off &&& c.apBankHiMask = off &&& c.apBankHiMask := by
    ext i hi; simp [bankOf]; grind
  have hlo : bankOf c off &&& c.apBankLoMask = off &&& c.apBankLoMask := by
    ext i hi; simp [bankOf]; grind
  rw [selVal, hhi, hlo]

/-- A slice of SELECT is made of the slice of the address, the slice of the offset 4 bits higher up,
and the slice of the offset in place. -/
theorem selVal_extractLsb' (c : Cfg) (lo : Word) (off : Offset) {start len : Nat}
    (h : start + len ≤ 32) : (selVal c lo off).extractLsb' start len =
      lo.extractLsb' start len
        ||| (off.extractLsb' (4 + start) len &&& c.apBankHiMask.extractLsb' (4 + start) len)
        ||| (off.extractLsb' start len &&& c.apBankLoMask.extractLsb' start len) := by
  rw [selVal_eq, BitVec.setWidth_ushiftRight_eq_extractLsb]
  ext i hi
  have hlt : start + i < 32 := by omega
  simp [hlt, Nat.add_assoc]

/-- A default mask covers a nibble wholly or not at all. -/
theorem nibble_and_fifteen (x : BitVec 4) : x &&& 15#4 = x := BitVec.and_allOnes

/-- Under the defaults the bank nibbles stand side by side in SELECT[11:4]. -/
theorem selVal_default_slices (lo : Word) (off : Offset) :
    (selVal Cfg.default lo off).extractLsb' 12 20 = lo.extractLsb' 12 20 ∧
    (selVal Cfg.default lo off).extractLsb' 8 4 = (lo.extractLsb' 8 4 ||| off.extractLsb' 12 4) ∧
    (selVal Cfg.default lo off).extractLsb' 4 4 = (lo.extractLsb' 4 4 ||| off.extractLsb' 4 4) ∧
    (selVal Cfg.default lo off).extractLsb' 0 4 = lo.extractLsb' 0 4 := by
  have hhi : Cfg.default.apBankHiMask = 0xF000#16 := rfl
  have hlo : Cfg.default.apBankLoMask = 0x00F0#16 := rfl
  refine ⟨?_, ?_, ?_, ?_⟩ <;> simp [selVal_extractLsb', hhi, hlo, nibble_and_fifteen]

/-- Settles O7: the formula without `BankOf`, the slices it has under the defaults, and the rule's
example. -/
theorem selValPlacesBothNibbles : Obligations.SelValPlacesBothNibbles :=
  ⟨selVal_eq, selVal_default_slices, by decide⟩

/-! ### The window an offset names (40_bank_selector.md R118) -/

/-- The bank nibbles of an offset as they stand in SELECT[11:4] under the defaults. -/
def windowOf (off : Offset) : BitVec 8 := off.extractLsb' 12 4 ++ off.extractLsb' 4 4

theorem extractLsb'_window {n : Nat} (x : BitVec n) :
    x.extractLsb' 4 8 = x.extractLsb' 8 4 ++ x.extractLsb' 4 4 :=
  (BitVec.extractLsb'_append_extractLsb'_eq_extractLsb' (len₁ := 4) (len₂ := 4) rfl).symm

theorem selVal_default_window (lo : Word) (off : Offset) :
    (selVal Cfg.default lo off).extractLsb' 4 8 = lo.extractLsb' 4 8 ||| windowOf off := by
  obtain ⟨-, h8, h4, -⟩ := selVal_default_slices lo off
  rw [extractLsb'_window, extractLsb'_window lo, h8, h4, windowOf, BitVec.or_append]

/-- Under the defaults an offset's bank is its window, the nibbles moved back in place. -/
theorem bankOf_default_eq_window (off : Offset) : bankOf Cfg.default off =
    (windowOf off).extractLsb' 4 4 ++ (0#4 ++ ((windowOf off).extractLsb' 0 4 ++ 0#4)) := by
  have hmask : Cfg.default.apBankHiMask ||| Cfg.default.apBankLoMask =
      BitVec.allOnes 4 ++ (0#4 ++ (BitVec.allOnes 4 ++ 0#4)) := rfl
  rw [bankOf, hmask, windowOf, BitVec.extractLsb'_append_eq_left,
    BitVec.extractLsb'_append_eq_right]
  refine BitVec.eq_of_getLsbD_eq fun i hi => ?_
  simp only [BitVec.getLsbD_and, BitVec.getLsbD_append, BitVec.getLsbD_extractLsb',
    BitVec.getLsbD_allOnes, BitVec.getLsbD_zero]
  grind

/-- The offset of a component register: the register's upper byte is spread over the two bank
nibbles, the flags stand between them. -/
theorem offsetFor_eq_append (x : XAddr) (flags : BitVec 4) :
    offsetFor x flags = x.extractLsb' 8 4 ++ (flags ++ x.extractLsb' 0 8) := by
  have hhi : 0x0F00#16 = (BitVec.allOnes 4 ++ 0#8).setWidth 16 := rfl
  have hlo : 0x00FF#16 = (BitVec.allOnes 8).setWidth 16 := rfl
  rw [offsetFor, hhi, hlo]
  refine BitVec.eq_of_getLsbD_eq fun i hi => ?_
  simp only [BitVec.getLsbD_append, BitVec.getLsbD_or, BitVec.getLsbD_and, BitVec.getLsbD_setWidth,
    BitVec.getLsbD_shiftLeft, BitVec.getLsbD_extractLsb', BitVec.getLsbD_allOnes,
    BitVec.getLsbD_zero]
  grind

theorem xaddrOf_offsetFor (x : XAddr) (flags : BitVec 4) :
    xaddrOf (offsetFor x flags) = flags ++ x.extractLsb' 0 8 := by
  rw [offsetFor_eq_append]
  exact BitVec.extractLsb'_append_eq_right

theorem windowOf_offsetFor (x : XAddr) (flags : BitVec 4) :
    windowOf (offsetFor x flags) = x.extractLsb' 4 8 := by
  rw [windowOf, offsetFor_eq_append, extractLsb'_window]
  refine congrArg₂ _ BitVec.extractLsb'_append_eq_left ?_
  refine (BitVec.extractLsb'_append_eq_of_add_le (by omega)).trans ?_
  refine (BitVec.extractLsb'_append_eq_of_add_le (by omega)).trans ?_
  exact BitVec.extractLsb'_extractLsb'_of_le (by omega)

/-- Settles O9: with ADDR[11:4] clear SELECT[11:4] is the window of the offset, and that is the
register's. -/
theorem offsetForSelectsTheRegistersWindow : Obligations.OffsetForSelectsTheRegistersWindow := by
  refine ⟨fun a x flags ha => ?_, by decide⟩
  have hlo : (lo32 a).extractLsb' 4 8 = 0#8 := by
    rw [← ha]
    simp [lo32, BitVec.extractLsb'_extractLsb'_of_le]
  rw [selVal_default_window, hlo, BitVec.zero_or, windowOf_offsetFor, xaddrOf_offsetFor]
  exact ⟨rfl, BitVec.extractLsb'_append_eq_right, BitVec.extractLsb'_append_eq_left⟩

/-! ### What `SelVal` keeps and determines (40_bank_selector.md R119) -/

theorem selVal_and_address (c : Cfg) (lo : Word) (off : Offset) : selVal c lo off &&& lo = lo := by
  ext i hi; simp [selVal]; grind

theorem selVal_zero_and_not_bank (c : Cfg) (off : Offset) : selVal c 0#32 off &&&
    ~~~((c.apBankHiMask >>> 4).setWidth 32 ||| c.apBankLoMask.setWidth 32) = 0#32 := by
  ext i hi; simp [selVal]; grind

theorem selVal_congr_bankOf {c : Cfg} {off off' : Offset} (h : bankOf c off = bankOf c off')
    (lo : Word) : selVal c lo off = selVal c lo off' := by
  rw [selVal, selVal, h]

/-- A word is its parts above, in and below the window. -/
theorem word_eq_of_slices {x y : Word} (hhi : x.extractLsb' 12 20 = y.extractLsb' 12 20)
    (hwindow : x.extractLsb' 4 8 = y.extractLsb' 4 8)
    (hlo : x.extractLsb' 0 4 = y.extractLsb' 0 4) : x = y := by
  simp only [BitVec.toNat_eq, BitVec.extractLsb'_toNat, Nat.shiftRight_eq_div_pow] at *
  omega

theorem window_eq_zero {lo : Word} (h : lo &&& 0x00000FF0#32 = 0#32) :
    lo.extractLsb' 4 8 = 0#8 := by
  have hcut := congrArg (BitVec.extractLsb' 4 8) h
  rw [BitVec.extractLsb'_and] at hcut
  exact BitVec.and_allOnes.symm.trans hcut

/-- R119 (d): the address stands outside the window, and the bank is the window. -/
theorem selVal_default_inj {lo lo' : Word} {off off' : Offset} (hlo : lo &&& 0x00000FF0#32 = 0#32)
    (hlo' : lo' &&& 0x00000FF0#32 = 0#32)
    (h : selVal Cfg.default lo off = selVal Cfg.default lo' off') :
    lo = lo' ∧ bankOf Cfg.default off = bankOf Cfg.default off' := by
  obtain ⟨hhi, -, -, hlow⟩ := selVal_default_slices lo off
  obtain ⟨hhi', -, -, hlow'⟩ := selVal_default_slices lo' off'
  have hwindow := selVal_default_window lo off
  have hwindow' := selVal_default_window lo' off'
  rw [h] at hhi hlow hwindow
  rw [window_eq_zero hlo, BitVec.zero_or] at hwindow
  rw [window_eq_zero hlo', BitVec.zero_or] at hwindow'
  constructor
  · exact word_eq_of_slices (hhi.symm.trans hhi')
      ((window_eq_zero hlo).trans (window_eq_zero hlo').symm) (hlow.symm.trans hlow')
  · rw [bankOf_default_eq_window, bankOf_default_eq_window, ← hwindow, hwindow']

/-- Settles O8: what (b) and (c) say of the defaults is their general form at the default masks. -/
theorem selValKeepsTheAddressAndIsInjective : Obligations.SelValKeepsTheAddressAndIsInjective :=
  ⟨selVal_and_address, selVal_zero_and_not_bank, selVal_zero_and_not_bank Cfg.default,
    fun _ lo _ _ h => selVal_congr_bankOf h lo,
    fun lo _ _ h => selVal_congr_bankOf (c := Cfg.default) h lo,
    fun _ _ _ _ hlo hlo' h => selVal_default_inj hlo hlo' h⟩

/-! ### The select sub-sequences in an operation whose transactions succeed -/

/-- The AP preamble (40_bank_selector.md R114, R115): its first write exposes SELECT1's bank, so its
second reaches SELECT1. -/
theorem selectAP_run_reached (s : State) (i : Instr) (evs : List Event) (tgt : Target)
    (a b c : Word) (rest : List Answer) (vs : List Word) (addr : Addr) (off : Offset)
    (next : Script) :
    (selectAP s.cfg addr off next).run
        (s.reached i evs tgt (.ok a :: .ok b :: .ok c :: rest) vs) =
      next.run (s.reached i (evs ++ evPreamble s.cfg addr off) (apTarget s.cfg addr off) rest
        (vs ++ [0#32, 0#32, 0#32])) := by
  simp only [selectAP, selectDP, writeSelect1, writeSelect, Script.run_xfer_reached]
  simp [Target.land, select1Exposed, selVal_zero_offset, bank_exposed, evPreamble, evBank, evSelect,
    evSelect1, apTarget, Answer.seen, Request.value]

/-! ### SELB (40_bank_selector.md R117) -/

/-- Settles O17: with extension SELB is the AP preamble and a return. -/
theorem selbWithExtensionWritesSelect1AndSelect :
    Obligations.SelbWithExtensionWritesSelect1AndSelect := by
  intro s off addr data a b c rest hb ht
  rw [exec_eq_perform, State.perform_idle hb, State.accept_eq_reached ht]
  refine congrArg _ ((selectAP_run_reached ..).trans ?_)
  exact State.finish_reached ..

/-- Settles O18: without extension SELB is its one write of SELECT and a return. -/
theorem selbWithoutExtensionLeavesSelect1 : Obligations.SelbWithoutExtensionLeavesSelect1 :=
  fun _ off addr data _ _ hb ht => exec_selb_without_extension hb ht off addr data

end Sys2Proof.Machine
end

section
/-! SUPPORT. The obligations on the base address (41_base_address.md): the halves of a 64-bit
address, the range check, and the base-pointer reader with RDBASE. -/

namespace Sys2Proof.Machine

/-! ### The halves of an address (41_base_address.md R130 to R132) -/

/-- The two halves stand side by side: neither reaches into the other's bits. -/
theorem combine64_eq_append (lo hi : Word) : combine64 lo hi = hi ++ lo := by
  rw [BitVec.append_def, BitVec.shiftLeftZeroExtend_eq, BitVec.setWidth'_eq, BitVec.or_comm]
  rfl

theorem combine64_lo32_hi32 (a : Addr) : combine64 (lo32 a) (hi32 a) = a :=
  calc combine64 (lo32 a) (hi32 a)
    _ = a.extractLsb' 32 32 ++ a.extractLsb' 0 32 := combine64_eq_append ..
    _ = a.extractLsb' 0 64 := BitVec.extractLsb'_append_extractLsb'_eq_extractLsb' rfl
    _ = a := BitVec.extractLsb'_eq_self

theorem lo32_combine64 (lo hi : Word) : lo32 (combine64 lo hi) = lo := by
  rw [combine64_eq_append]
  exact BitVec.extractLsb'_append_eq_right

theorem hi32_combine64 (lo hi : Word) : hi32 (combine64 lo hi) = hi := by
  rw [combine64_eq_append]
  exact BitVec.extractLsb'_append_eq_left

/-- Settles O10: a combination is its halves side by side, and a half is cut out where it stands. -/
theorem splitAndCombineRoundTrip : Obligations.SplitAndCombineRoundTrip :=
  ⟨combine64_lo32_hi32, fun lo hi => ⟨lo32_combine64 lo hi, hi32_combine64 lo hi⟩⟩

/-! ### The range check (41_base_address.md R135) -/

theorem baseFits_iff (raw : Addr) (w : Nat) : baseFits raw w = true ↔ raw.toNat < 2 ^ w :=
  decide_eq_true_iff

/-- The mask does not wrap: `2 ^ w` is still a 64-bit number. -/
theorem toNat_lowMask {w : Nat} (hw : w ≤ 63) : (1#64 <<< w - 1#64).toNat = 2 ^ w - 1 := by
  have hpow : (1#64 <<< w).toNat = 2 ^ w := by
    rw [← BitVec.twoPow_eq, BitVec.toNat_twoPow_of_lt (by omega)]
  have hle : 1#64 ≤ 1#64 <<< w := by
    rw [BitVec.le_def, hpow]
    exact Nat.one_le_two_pow
  rw [BitVec.toNat_sub_of_le hle, hpow]
  rfl

/-- Masking to the low `w` bits is the remainder modulo `2 ^ w`. -/
theorem baseFits_iff_mask (raw : Addr) {w : Nat} (hw : w ≤ 63) :
    baseFits raw w = true ↔ raw &&& (1#64 <<< w - 1#64) = raw := by
  rw [baseFits_iff, BitVec.toNat_eq, BitVec.toNat_and, toNat_lowMask hw,
    Nat.and_two_pow_sub_one_eq_mod, Nat.mod_eq_iff_lt (Nat.two_pow_pos w).ne']

/-- Shifting right by `w` is the quotient by `2 ^ w`, at every width. -/
theorem baseFits_iff_shift (raw : Addr) (w : Nat) : baseFits raw w = true ↔ raw >>> w = 0#64 := by
  rw [baseFits_iff, BitVec.toNat_eq, BitVec.toNat_ushiftRight, Nat.shiftRight_eq_div_pow]
  exact (Nat.div_eq_zero_iff_lt (Nat.two_pow_pos w)).symm

/-- From width 64 on the shift leaves nothing. -/
theorem baseFits_of_wide (raw : Addr) {w : Nat} (hw : 64 ≤ w) : baseFits raw w = true :=
  (baseFits_iff_shift raw w).2 (BitVec.ushiftRight_eq_zero hw)

/-- Settles O11: below `2 ^ w` the remainder is the value and the quotient is 0. -/
theorem baseFitsAgreesWithTheMaskForm : Obligations.BaseFitsAgreesWithTheMaskForm := by
  refine fun raw w => ⟨baseFits_iff raw w, baseFits_iff_mask raw,
    fun h => baseFits_of_wide raw h.ge, fun h => .inr ((baseFits_iff_shift raw w).1 h), ?_⟩
  rintro (hwide | hshift)
  · exact baseFits_of_wide raw hwide
  · exact (baseFits_iff_shift raw w).2 hshift

/-! ### The base-pointer reader and RDBASE (41_base_address.md R133, R138) -/

/-- `SelectDP(k)` in an operation whose transactions succeed (40_bank_selector.md R113). -/
theorem selectDP_run_reached (s : State) (i : Instr) (evs : List Event) (tgt : Target) (a : Word)
    (rest : List Answer) (vs : List Word) (k : BitVec 4) (next : Script) :
    (selectDP s.cfg k next).run (s.reached i evs tgt (.ok a :: rest) vs) =
      next.run (s.reached i (evs ++ [evBank s.cfg k]) ⟨k.setWidth 32, tgt.select1⟩ rest
        (vs ++ [0#32])) := by
  rw [selectDP, Script.run_xfer_reached, selVal_zero_offset]
  rfl

/-- A read in an operation whose transactions succeed leaves the target side as it is. -/
theorem read_run_reached (s : State) (i : Instr) (evs : List Event) (tgt : Target) (v : Word)
    (rest : List Answer) (vs : List Word) (x : XAddr) (k : Word → Script) :
    (Script.xfer .access (.read x) k).run (s.reached i evs tgt (.ok v :: rest) vs) =
      (k v).run (s.reached i (evs ++ [evRead x v]) tgt rest (vs ++ [v])) :=
  Script.run_xfer_reached ..

/-- `ReadBase()`: both halves are read, the low one first, and SELECT1 is not written. -/
theorem readBase_run_reached (s : State) (i : Instr) (evs : List Event) (tgt : Target)
    (a lo b hi : Word) (rest : List Answer) (vs : List Word) (k : Addr → Script) :
    (readBase s.cfg k).run (s.reached i evs tgt (okBase a lo b hi ++ rest) vs) =
      (k (combine64 lo hi)).run (s.reached i (evs ++ evBase s.cfg lo hi)
        ⟨s.cfg.bankBaseptr1.setWidth 32, tgt.select1⟩ rest (vs ++ [0#32, lo, 0#32, hi])) := by
  simp [readBase, okBase, evBase, selectDP_run_reached, read_run_reached]

/-- Settles O20: RDBASE is the base-pointer reader and a return of what it read. -/
theorem rdbaseReturnsTheRawPointer : Obligations.RdbaseReturnsTheRawPointer := by
  intro s off addr data a lo b hi rest hb ht
  rw [exec_eq_perform, State.perform_idle hb, State.accept_eq_reached ht,
    scriptOf, rdbaseScript, readBase_run_reached]
  exact congrArg _ (State.finish_reached ..)

end Sys2Proof.Machine
end

section
/-! SUPPORT. The obligations on what INIT does (42_dp_init.md R150 to R158): each of its parts as a
lemma about a run whose transactions succeed, put together up to the end it comes to. -/

namespace Sys2Proof.Machine

/-- Settles O26: INIT is going on from a state that is bound already, and V6_BOUND does not fall. -/
theorem initBindsBeforeAnyTransaction : Obligations.InitBindsBeforeAnyTransaction := by
  intro s t off addr data hb hx
  obtain ⟨hbound, -⟩ := State.resume_flags ((exec_idle_iff_resume hb).1 hx)
  exact hbound (by simp [Instr.command])

/-! ### Diagnostics and failures in an operation whose transactions succeed -/

/-- A diagnostic leaves the position where it is (60_exceptions.md R224). -/
theorem diag_run_reached (s : State) (i : Instr) (evs : List Event) (tgt : Target)
    (rest : List Answer) (vs : List Word) (w : PortWord) (k : Script) :
    (Script.diag w k).run (s.reached i evs tgt rest vs) =
      k.run (s.reached i (evs ++ [.diag w]) tgt rest vs) := by
  rw [Script.run]
  simp [State.reached, State.emit, diags]

/-- The failure exit after a diagnostic (60_exceptions.md R214, R224). -/
theorem diag_fail_run_reached (s : State) (i : Instr) (evs : List Event) (tgt : Target)
    (rest : List Answer) (vs : List Word) (w : PortWord) (q : Reason) :
    (Script.diag w (.fail q)).run (s.reached i evs tgt rest vs) =
      s.completed i (evs ++ [.diag w]) tgt rest (failResponse q s.addrWidth) :=
  (diag_run_reached ..).trans (State.finish_reached ..)

/-! ### The prober (44_component_probe.md R194 to R197) -/

/-- One lane: the AP preamble and the read. -/
theorem readLane_run_reached (s : State) (i : Instr) (evs : List Event) (tgt : Target)
    (a b c v : Word) (rest : List Answer) (vs : List Word) (base : Addr) (n : Nat)
    (k : Word → Script) :
    (readLane s.cfg base n k).run (s.reached i evs tgt (okLane a b c v ++ rest) vs) =
      (k v).run (s.reached i (evs ++ evLane s.cfg base n v) (apTarget s.cfg base (laneOff s.cfg n))
        rest (vs ++ [0#32, 0#32, 0#32, v])) := by
  simp [readLane, okLane, evLane, selectAP_run_reached, read_run_reached]

/-- All four lanes are read before the test. -/
theorem probe_run_reached (s : State) (i : Instr) (evs : List Event) (tgt : Target)
    (a0 b0 c0 v0 a1 b1 c1 v1 a2 b2 c2 v2 a3 b3 c3 v3 : Word) (rest : List Answer) (vs : List Word)
    (base : Addr) (n : Word) :
    (probe s.cfg base n).run (s.reached i evs tgt (okLane a0 b0 c0 v0 ++ okLane a1 b1 c1 v1 ++
        okLane a2 b2 c2 v2 ++ okLane a3 b3 c3 v3 ++ rest) vs) =
      (probeVerdict s.cfg base n (cidrAssemble v0 v1 v2 v3)).run
        (s.reached i (evs ++ evProbe s.cfg base v0 v1 v2 v3)
          (apTarget s.cfg base (laneOff s.cfg 3)) rest (vs ++ [0#32, 0#32, 0#32, v0, 0#32, 0#32,
            0#32, v1, 0#32, 0#32, 0#32, v2, 0#32, 0#32, 0#32, v3])) := by
  simp [probe, evProbe, readLane_run_reached]

/-- After a match the dispatch stub answers (44_component_probe.md R196, R197). -/
theorem probeVerdict_run_match {c : Cfg} {cidr : Word} (h : cidrPreambleOk c cidr = true)
    (s : State) (i : Instr) (evs : List Event) (tgt : Target) (rest : List Answer) (vs : List Word)
    (base : Addr) (n : Word) :
    (probeVerdict c base n cidr).run (s.reached i evs tgt rest vs) =
      s.completed i evs tgt rest ⟨false, 5#4, cidrClass c cidr, s.addrWidth, base, cidr⟩ := by
  rw [probeVerdict, if_pos h]
  exact State.finish_reached ..

/-- A mismatch is reported and fails (44_component_probe.md R195). -/
theorem probeVerdict_run_mismatch {c : Cfg} {cidr : Word} (h : cidrPreambleOk c cidr = false)
    (s : State) (i : Instr) (evs : List Event) (tgt : Target) (rest : List Answer) (vs : List Word)
    (base : Addr) (n : Word) :
    (probeVerdict c base n cidr).run (s.reached i evs tgt rest vs) =
      s.completed i (evs ++ [.diag (diagWord .preambleMismatch .ePreambleMismatch base n)]) tgt rest
        (failResponse .ePreambleMismatch s.addrWidth) := by
  rw [probeVerdict, if_neg (by simp [h])]
  exact diag_fail_run_reached ..

/-! ### INIT up to the width (42_dp_init.md R151 to R153) -/

section
variable {s : State} {a v : Word} {rest : List Answer}

/-- INIT binds and reads the secondary identification register (42_dp_init.md R151, R152). -/
theorem exec_init_reads_width (hb : s.busy = false)
    (ht : s.transport = .live (.ok a :: .ok v :: rest)) (off : Offset) (addr : Addr) (data : Word) :
    exec (.init off addr data) s = .next ((initWidth s.cfg v).run
      (s.bindV6.reached (.init off addr data)
        [evBank s.cfg s.cfg.bankDpidr1, evRead s.cfg.xaddrDpidr1 v]
        ⟨s.cfg.bankDpidr1.setWidth 32, s.target.select1⟩ rest [0#32, v])) := by
  rw [exec_eq_perform, State.perform_idle hb, State.accept_eq_reached ht]
  exact congrArg _ ((selectDP_run_reached s.bindV6 ..).trans (read_run_reached ..))

/-- A width below 32 or above 64 is not supported (41_base_address.md R137). -/
theorem widthSupported_eq_false {w : Word} (h : w.toNat < 32 ∨ 64 < w.toNat) :
    widthSupported w = false := by
  rw [widthSupported, decide_eq_false_iff_not]
  omega

/-- A supported width fits the 7 bits of ADDR_WIDTH (10_state.md R23). -/
theorem toNat_setWidth_of_widthSupported {w : Word} (h : widthSupported w = true) :
    (w.setWidth 7).toNat = w.toNat := by
  rw [widthSupported, decide_eq_true_eq] at h
  rw [BitVec.toNat_setWidth]
  omega

/-- Settles O27: the support check follows the diagnostic and fails before the width is recorded. -/
theorem initRejectsAnUnsupportedWidth : Obligations.InitRejectsAnUnsupportedWidth := by
  intro s off addr data a v rest hb ht hw
  rw [exec_init_reads_width hb ht, initWidth, widthOf, widthSupported_eq_false hw]
  exact congrArg _ (diag_fail_run_reached ..)

/-! ### INIT up to the base pointer (42_dp_init.md R154) -/

/-- An INIT under way, bound and with the width recorded (42_dp_init.md R151, R152). -/
def State.initialised (s : State) (w : BitVec 7) : State := s.bindV6.recordWidth w

/-- With a supported width INIT records it and reads the base pointer (42_dp_init.md R152, R154). -/
theorem exec_init_reads_base {b lo c hi : Word} (hb : s.busy = false)
    (ht : s.transport = .live (.ok a :: .ok v :: okBase b lo c hi ++ rest))
    (hw : widthSupported (widthOf s.cfg v) = true) (off : Offset) (addr : Addr) (data : Word) :
    exec (.init off addr data) s = .next ((initVerdict s.cfg (combine64 lo hi)).run
      ((s.initialised ((widthOf s.cfg v).setWidth 7)).reached (.init off addr data)
        (evWidth s.cfg v ++ evBase s.cfg lo hi)
        ⟨s.cfg.bankBaseptr1.setWidth 32, s.target.select1⟩ rest
        [0#32, v, 0#32, lo, 0#32, hi])) := by
  rw [exec_init_reads_width hb ht, initWidth, if_pos hw]
  exact congrArg _ ((diag_run_reached ..).trans
    (readBase_run_reached (s.initialised ((widthOf s.cfg v).setWidth 7)) ..))

/-! ### The ends of an INIT with a supported width (42_dp_init.md R155 to R158) -/

/-- Settles O28: validity is tested first. -/
theorem initRejectsAnInvalidBase : Obligations.InitRejectsAnInvalidBase := by
  intro s off addr data a v b lo c hi rest hb ht hw hvalid
  have hbase : ¬ baseValid (combine64 lo hi) = true := by
    rw [baseValid, hvalid]
    exact Bool.false_ne_true
  rw [exec_init_reads_base hb ht hw, initVerdict, if_neg hbase]
  exact congrArg _ (diag_fail_run_reached ..)

/-- The range test of a valid base pointer reads the width just recorded (42_dp_init.md R156). -/
theorem initVerdict_run_valid {raw : Addr} {w : Word} (hvalid : baseValid raw = true)
    (hw : widthSupported w = true) (i : Instr) (evs : List Event) (tgt : Target)
    (vs : List Word) :
    (initVerdict s.cfg raw).run ((s.initialised (w.setWidth 7)).reached i evs tgt rest vs) =
      (if baseFits raw w.toNat then probe s.cfg (baseCanon s.cfg raw) 0#32
        else .diag (diagWord .invalidBase .eBaseTooWide raw 0#32) (.fail .eBaseTooWide)).run
        ((s.initialised (w.setWidth 7)).reached i evs tgt rest vs) := by
  rw [initVerdict, if_pos hvalid, ← toNat_setWidth_of_widthSupported hw]
  rfl

/-- Settles O29: a valid pointer that does not fit fails the range test. -/
theorem initRejectsABaseTooWide : Obligations.InitRejectsABaseTooWide := by
  intro s off addr data a v b lo c hi rest hb ht hw hvalid hwide
  have hfits : ¬ baseFits (combine64 lo hi) (widthOf s.cfg v).toNat = true := by
    rw [baseFits_iff]
    exact hwide.not_gt
  rw [exec_init_reads_base hb ht hw, initVerdict_run_valid hvalid hw, if_neg hfits]
  exact congrArg _ (diag_fail_run_reached ..)

/-- With every test passed but the preamble's, INIT probes the canonical base with entry index 0
(42_dp_init.md R157, R158). -/
theorem exec_init_probes {b lo c hi a0 b0 c0 v0 a1 b1 c1 v1 a2 b2 c2 v2 a3 b3 c3 v3 : Word}
    (hb : s.busy = false)
    (ht : s.transport = .live (.ok a :: .ok v :: okBase b lo c hi ++ okLane a0 b0 c0 v0 ++
      okLane a1 b1 c1 v1 ++ okLane a2 b2 c2 v2 ++ okLane a3 b3 c3 v3 ++ rest))
    (hw : widthSupported (widthOf s.cfg v) = true) (hvalid : baseValid (combine64 lo hi) = true)
    (hfits : baseFits (combine64 lo hi) (widthOf s.cfg v).toNat = true) (off : Offset)
    (addr : Addr) (data : Word) :
    ∃ vs, exec (.init off addr data) s = .next
      ((probeVerdict s.cfg (baseCanon s.cfg (combine64 lo hi)) 0#32 (cidrAssemble v0 v1 v2 v3)).run
        ((s.initialised ((widthOf s.cfg v).setWidth 7)).reached (.init off addr data)
          (evWidth s.cfg v ++ evBase s.cfg lo hi ++
            evProbe s.cfg (baseCanon s.cfg (combine64 lo hi)) v0 v1 v2 v3)
          (apTarget s.cfg (baseCanon s.cfg (combine64 lo hi)) (laneOff s.cfg 3)) rest vs)) := by
  have ht' : s.transport = .live (.ok a :: .ok v :: okBase b lo c hi ++ (okLane a0 b0 c0 v0 ++
      okLane a1 b1 c1 v1 ++ okLane a2 b2 c2 v2 ++ okLane a3 b3 c3 v3 ++ rest)) := by
    simpa using ht
  rw [exec_init_reads_base hb ht' hw, initVerdict_run_valid hvalid hw, if_pos hfits]
  exact ⟨_, congrArg _ (probe_run_reached (s.initialised ((widthOf s.cfg v).setWidth 7)) ..)⟩

end

/-- Settles O30: the probe of the canonical base ends with a match. -/
theorem initProbesTheCanonicalBase : Obligations.InitProbesTheCanonicalBase := by
  intro s off addr data a v b lo c hi a0 b0 c0 v0 a1 b1 c1 v1 a2 b2 c2 v2 a3 b3 c3 v3 rest
    hb ht hw hvalid hfits hok
  obtain ⟨vs, hx⟩ := exec_init_probes hb ht hw hvalid hfits off addr data
  rw [hx, probeVerdict_run_match hok]
  rfl

/-- Settles O31: the probe of the canonical base ends with a mismatch. -/
theorem initReportsAPreambleMismatch : Obligations.InitReportsAPreambleMismatch := by
  intro s off addr data a v b lo c hi a0 b0 c0 v0 a1 b1 c1 v1 a2 b2 c2 v2 a3 b3 c3 v3 rest
    hb ht hw hvalid hfits hok
  obtain ⟨vs, hx⟩ := exec_init_probes hb ht hw hvalid hfits off addr data
  rw [hx, probeVerdict_run_mismatch hok]
  rfl

end Sys2Proof.Machine
end

section
/-! SUPPORT. The scripts of INIT and PROBE end with no success (42_dp_init.md R158,
44_component_probe.md R198). -/

namespace Sys2Proof.Machine

/-- A script none of whose ends answers `OK = 1`. -/
abbrev Script.NeverSucceeds (p : Script) : Prop := p.Answers fun _ r => r.ok = false

theorem Script.neverSucceeds_fail (q : Reason) : (Script.fail q).NeverSucceeds := fun _ => rfl

theorem Script.neverSucceeds_xfer {role : Role} {r : Request} {k : Word → Script} :
    (Script.xfer role r k).NeverSucceeds ↔ ∀ v, (k v).NeverSucceeds :=
  and_iff_right fun _ => rfl

/-- The prober answers the dispatch stub's code, or fails (44_component_probe.md R195, R197). -/
theorem probe_neverSucceeds (c : Cfg) (base : Addr) (n : Word) :
    (probe c base n).NeverSucceeds := by
  simp only [probe, readLane, selectAP, selectDP, writeSelect1, writeSelect,
    Script.neverSucceeds_xfer, forall_const]
  intro v0 v1 v2 v3
  unfold probeVerdict
  split
  · exact fun _ => rfl
  · exact Script.neverSucceeds_fail .ePreambleMismatch

/-- From the base pointer on INIT fails, or answers as the prober (42_dp_init.md R155 to R158). -/
theorem initVerdict_neverSucceeds (c : Cfg) (raw : Addr) : (initVerdict c raw).NeverSucceeds := by
  unfold initVerdict
  split
  · intro w
    dsimp only
    split
    · exact probe_neverSucceeds c _ _
    · exact Script.neverSucceeds_fail .eBaseTooWide
  · exact Script.neverSucceeds_fail .eNoValidBase

theorem initWidth_neverSucceeds (c : Cfg) (v : Word) : (initWidth c v).NeverSucceeds := by
  change (if _ then _ else _ : Script).NeverSucceeds
  split
  · change (readBase c (initVerdict c)).NeverSucceeds
    simp only [readBase, selectDP, Script.neverSucceeds_xfer, forall_const]
    exact fun lo hi => initVerdict_neverSucceeds c _
  · exact Script.neverSucceeds_fail .eWidthUnsupported

theorem initScript_neverSucceeds (c : Cfg) : (initScript c).NeverSucceeds := by
  change (selectDP c c.bankDpidr1
    (.xfer .access (.read c.xaddrDpidr1) (initWidth c))).NeverSucceeds
  simp only [selectDP, Script.neverSucceeds_xfer, forall_const]
  exact initWidth_neverSucceeds c

/-- Settles O35: neither script has an end with `OK = 1`. -/
theorem initAndProbeNeverSucceed : Obligations.InitAndProbeNeverSucceed := by
  intro i s t hi h he
  refine h.answers (R := fun _ r => r.ok = false) he fun c => ?_
  cases i with
  | init off addr data => exact initScript_neverSucceeds c
  | probe off addr data => exact probe_neverSucceeds c addr data
  | _ => simp [Instr.command] at hi

end Sys2Proof.Machine
end

section
/-! SUPPORT. How many transactions an operation issues (42_dp_init.md R162): every script has a bound,
and the sequencer's position counts the transactions answered. -/

namespace Sys2Proof.Machine

/-! ### Scripts with a bound -/

/-- No path through the script has more than `n` transactions. -/
def Script.AtMost : Script → Nat → Prop
  | .xfer _ _ k, n => ∃ m, n = m + 1 ∧ ∀ v, (k v).AtMost m
  | .bindV6 k, n => k.AtMost n
  | .recordWidth _ k, n => k.AtMost n
  | .readWidth k, n => ∀ w, (k w).AtMost n
  | .diag _ k, n => k.AtMost n
  | .fail _, _ => True
  | .ret .., _ => True

theorem Script.atMost_xfer {role : Role} {r : Request} {k : Word → Script} {n : Nat} :
    (Script.xfer role r k).AtMost (n + 1) ↔ ∀ v, (k v).AtMost n := by
  simp [Script.AtMost]

/-- A position at a transaction leaves that many fewer to come. -/
theorem Script.AtMost.after {p : Script} {n : Nat} (hp : p.AtMost n) {w : BitVec 7}
    {vs : List Word} (hx : (p.after w vs).atXfer = true) :
    ∃ m, n = vs.length + m ∧ (p.after w vs).AtMost m := by
  induction p generalizing n vs with
  | xfer role r k ih =>
    cases vs with
    | nil => exact ⟨n, by simp, hp⟩
    | cons v vs =>
      obtain ⟨n, rfl, hk⟩ := hp
      obtain ⟨m, rfl, hm⟩ := ih v (hk v) hx
      exact ⟨m, by simp only [List.length_cons]; omega, hm⟩
  | bindV6 k ih => exact ih hp hx
  | recordWidth w' k ih => exact ih hp hx
  | readWidth k ih => exact ih w (hp w) hx
  | diag w' k ih => exact ih hp hx
  | fail q => cases hx
  | ret ok q cls a d => cases hx

section
variable {c : Cfg} {n : Nat}

@[simp] theorem selectDP_atMost {k : BitVec 4} {next : Script} :
    (selectDP c k next).AtMost (n + 1) ↔ next.AtMost n := by
  simp [selectDP, Script.atMost_xfer]

@[simp] theorem writeSelect1_atMost {a : Addr} {next : Script} :
    (writeSelect1 c a next).AtMost (n + 1) ↔ next.AtMost n := by
  simp [writeSelect1, Script.atMost_xfer]

@[simp] theorem writeSelect_atMost {a : Addr} {off : Offset} {next : Script} :
    (writeSelect c a off next).AtMost (n + 1) ↔ next.AtMost n := by
  simp [writeSelect, Script.atMost_xfer]

@[simp] theorem selectAP_atMost {a : Addr} {off : Offset} {next : Script} :
    (selectAP c a off next).AtMost (n + 3) ↔ next.AtMost n := by
  simp [selectAP]

/-- The base-pointer reader has four transactions (41_base_address.md R133). -/
theorem readBase_atMost {k : Addr → Script} (hk : ∀ raw, (k raw).AtMost n) :
    (readBase c k).AtMost (n + 4) := by
  simp [readBase, Script.atMost_xfer, hk]

/-- A lane has four transactions (44_component_probe.md R194). -/
theorem readLane_atMost {base : Addr} {i : Nat} {k : Word → Script} (hk : ∀ v, (k v).AtMost n) :
    (readLane c base i k).AtMost (n + 4) := by
  simp [readLane, Script.atMost_xfer, hk]

/-- The prober has sixteen transactions (44_component_probe.md R194). -/
theorem probe_atMost (base : Addr) (e : Word) : (probe c base e).AtMost (n + 16) := by
  refine readLane_atMost (n := n + 12) fun v0 => readLane_atMost (n := n + 8) fun v1 =>
    readLane_atMost (n := n + 4) fun v2 => readLane_atMost fun v3 => ?_
  unfold probeVerdict
  split <;> trivial

theorem initVerdict_atMost (raw : Addr) : (initVerdict c raw).AtMost 16 := by
  unfold initVerdict
  split
  · intro w
    dsimp only
    split
    · exact probe_atMost (n := 0) _ _
    · trivial
  · trivial

/-- INIT has 2 + 4 + 16 transactions (42_dp_init.md R161). -/
theorem initScript_atMost : (initScript c).AtMost 22 := by
  change (selectDP c c.bankDpidr1 (.xfer .access (.read c.xaddrDpidr1) (initWidth c))).AtMost 22
  rw [selectDP_atMost, Script.atMost_xfer]
  intro v
  change (if _ then _ else _ : Script).AtMost 20
  split
  · exact readBase_atMost initVerdict_atMost
  · trivial

end

/-- No script has more transactions than INIT's (42_dp_init.md R162). -/
theorem scriptOf_atMost (c : Cfg) (i : Instr) : (scriptOf c i).AtMost 22 := by
  have hret : ∀ n cls a d, (Script.ret true .none cls a d).AtMost n := fun _ _ _ _ => trivial
  cases i with
  | selb hiv off addr data => cases hiv <;> simp [scriptOf, selbScript, hret]
  | rdbase off addr data =>
    exact readBase_atMost (k := fun raw => .ret true .none 0#4 raw 0#32) fun raw => hret 18 _ raw _
  | init off addr data => exact initScript_atMost
  | aprd off addr data => simp [scriptOf, aprdScript, Script.atMost_xfer, hret]
  | apwr off addr data => simp [scriptOf, apwrScript, Script.atMost_xfer, hret]
  | probe off addr data => exact probe_atMost (n := 6) addr data

/-! ### Transactions in the log -/

/-- How many transactions have been answered. -/
def State.transactions (s : State) : Nat := (trace s.log).length

theorem State.transactions_append {s t : State} {es : List Event} (h : t.log = s.log ++ es) :
    t.transactions = s.transactions + (trace es).length := by
  simp [State.transactions, h, trace]

/-- The transactions added to a log that only grew. -/
theorem State.transactions_since {s t : State} (h : s.log <+: t.log) :
    t.transactions = s.transactions + (trace (t.log.drop s.log.length)).length := by
  obtain ⟨es, hes⟩ := h
  rw [State.transactions_append hes.symm, ← hes, List.drop_left]

/-- The end of an operation is no transaction. -/
@[simp] theorem State.finish_transactions (s : State) (r : Response) :
    (s.finish r).transactions = s.transactions := by
  simp only [State.transactions, State.finish_log]
  split <;> simp [trace, Event.isXfer]

@[simp] theorem State.answered_transactions (s : State) (role : Role) (r : Request) (a : Answer) :
    (s.answered role r a).transactions = s.transactions + 1 :=
  State.transactions_append (s.answered_log role r a)

@[simp] theorem State.launched_transactions (s : State) (i : Instr) :
    (s.launched i).transactions = s.transactions :=
  State.transactions_append (s.launched_log i)

@[simp] theorem State.emit_transactions (s : State) (w : PortWord) :
    (s.emit w).transactions = s.transactions :=
  State.transactions_append (s.emit_log w)

/-! ### Running -/

/-- A run issues no more transactions than its script has. -/
theorem Script.AtMost.run_transactions {p : Script} {n : Nat} (hp : p.AtMost n) (s : State) :
    (p.run s).transactions ≤ s.transactions + n := by
  induction p generalizing n s with
  | xfer role r k ih =>
    obtain ⟨m, rfl, hk⟩ := hp
    cases h : s.answer r with
    | ok v =>
      rw [Script.run_xfer_ok h]
      refine (ih _ (hk _) _).trans ?_
      change (s.answered role r (.ok v)).transactions + m ≤ _
      rw [State.answered_transactions]
      omega
    | err l =>
      rw [Script.run_xfer_err h, State.raiseFail_eq, State.finish_transactions,
        State.answered_transactions]
      omega
    | silent taken =>
      rw [Script.run_xfer_silent h]
      exact Nat.le_add_right ..
  | bindV6 k ih => exact ih hp s.bindV6
  | recordWidth w k ih => exact ih hp (s.recordWidth w)
  | readWidth k ih => exact ih _ (hp _) s
  | diag w k ih => exact (ih hp (s.emit w)).trans_eq (by rw [State.emit_transactions])
  | fail q => exact (s.finish_transactions _).trans_le (Nat.le_add_right ..)
  | ret ok q cls a d => exact (s.finish_transactions _).trans_le (Nat.le_add_right ..)

/-- If the machine runs, its position has grown with the log from `pos` where the log had `before`
transactions (10_state.md R27). -/
def State.CountsFrom (pos before : Nat) (s : State) : Prop :=
  ∀ vs, s.seq = .running vs → vs.length + before = pos + s.transactions

section
variable {pos before : Nat} {s : State}

theorem State.CountsFrom.answered (h : s.CountsFrom pos before) (role : Role) (r : Request)
    (a : Answer) (v : Word) : ((s.answered role r a).advance v).CountsFrom pos before := by
  intro vs' hs'
  cases hs : s.seq with
  | running vs =>
    obtain rfl : vs ++ [v] = vs' := by simpa [State.advance, hs] using hs'
    have hcount := h vs hs
    change _ = pos + (s.answered role r a).transactions
    rw [State.answered_transactions, List.length_append, List.length_singleton]
    omega
  | idle => simp [State.advance, hs] at hs'
  | responding => simp [State.advance, hs] at hs'

theorem State.finish_countsFrom (r : Response) : (s.finish r).CountsFrom pos before := by
  intro vs hs
  rw [State.finish_seq] at hs
  split at hs <;> cases hs

theorem Script.run_countsFrom (p : Script) (h : s.CountsFrom pos before) :
    (p.run s).CountsFrom pos before := by
  refine Script.run_induction (P := State.CountsFrom pos before)
    (Q := State.CountsFrom pos before) ?_ ?_ ?_ ?_ ?_ ?_ ?_ ?_ p s h
  · exact fun t role r v ht => ht.answered role r _ _
  · exact fun t ht => ht
  · exact fun t w ht => ht
  · intro t w ht vs hs
    rw [State.emit_transactions]
    exact ht vs hs
  · exact fun t role r l _ => State.finish_countsFrom _
  · exact fun t taken ht => ht
  · exact fun t q _ => State.finish_countsFrom _
  · exact fun t ok q cls a d _ => State.finish_countsFrom _

/-- Going on from a position issues at most what is left of the 22 transactions, and moves the
position by their number. -/
theorem State.resume_transactions {t : State} {vs : List Word} (hs : s.seq = .running vs)
    (h : s.resume = some t) :
    vs.length + t.transactions ≤ s.transactions + 22 ∧ t.CountsFrom vs.length s.transactions := by
  obtain ⟨hresp, -⟩ | ⟨vs', i, hs', -, hx, rfl⟩ := State.resume_cases_script h
  · rw [hs] at hresp; cases hresp
  · obtain rfl : vs = vs' := by rw [hs] at hs'; injection hs'
    obtain ⟨m, hm, hp⟩ := (scriptOf_atMost s.cfg i).after hx
    have hrun := hp.run_transactions s
    refine ⟨by omega, Script.run_countsFrom _ fun us hus => ?_⟩
    rw [hs] at hus; cases hus; rfl

end

/-- Settles O38: accepting a command is going on from position 0, and both clauses are
`State.resume_transactions`. -/
theorem atMostTwentyTwoTransactions : Obligations.AtMostTwentyTwoTransactions := by
  refine ⟨fun i s t hx => ?_, fun s t vs hs hr => ?_⟩
  · cases hb : s.busy with
    | true =>
      rw [exec_next_iff, State.perform_busy hb] at hx
      simp [hx, trace]
    | false =>
      have hr := (exec_idle_iff_resume hb).1 hx
      have hlog : s.log <+: t.log :=
        (List.prefix_append ..).trans (s.launched_log i ▸ State.resume_log hr)
      obtain ⟨hle, hcount⟩ := State.resume_transactions (s.launched_seq i) hr
      have hsince := State.transactions_since hlog
      rw [State.launched_transactions, List.length_nil] at hle
      refine ⟨by omega, fun _ vs hs => ?_⟩
      have hpos := hcount vs hs
      rw [State.launched_transactions, List.length_nil] at hpos
      omega
  · obtain ⟨hle, hcount⟩ := State.resume_transactions hs hr
    have hsince := State.transactions_since (State.resume_log hr)
    refine ⟨by omega, fun vs' hs' => ?_⟩
    have hpos := hcount vs' hs'
    omega

end Sys2Proof.Machine
end

section
/-! SUPPORT. The obligations on the AP register-access translator (43_ap_access.md): APRD and APWR as
the AP preamble and one access, which succeed or fail at one of their four transactions. -/

namespace Sys2Proof.Machine

/-- A command accepted from an idle BSE runs its script from its start. -/
theorem exec_idle_reached {s : State} {as : List Answer} (hb : s.busy = false)
    (ht : s.transport = .live as) (i : Instr) :
    exec i s = .next ((scriptOf s.cfg i).run (s.reached i [] s.target as [])) := by
  rw [exec_eq_perform, State.perform_idle hb, State.accept_eq_reached ht]

/-! ### Accesses that succeed (43_ap_access.md R171, R172) -/

/-- An access leaves SELECT and SELECT1, whatever its address (43_ap_access.md R175). -/
@[simp] theorem Target.land_access (c : Cfg) (past : List Event) (r : Request) (t : Target) :
    t.land c past .access r = t := by
  cases r <;> rfl

/-- The AP preamble and an access that succeeds. -/
theorem selectAP_access_run_reached (s : State) (i : Instr) (evs : List Event) (tgt : Target)
    (a b c v : Word) (rest : List Answer) (vs : List Word) (addr : Addr) (off : Offset)
    (r : Request) (k : Word → Script) :
    (selectAP s.cfg addr off (.xfer .access r k)).run
        (s.reached i evs tgt (okLane a b c v ++ rest) vs) =
      (k (r.value v)).run (s.reached i
        (evs ++ (evPreamble s.cfg addr off ++ [.xfer r (Answer.seen r (.ok v))]))
        (apTarget s.cfg addr off) rest (vs ++ [0#32, 0#32, 0#32, r.value v])) := by
  simp [okLane, selectAP_run_reached, Script.run_xfer_reached]

/-- Settles O21: the access of APRD is a read, whose value is the answer. -/
theorem aprdReadsTheBankedRegister : Obligations.AprdReadsTheBankedRegister := by
  intro s off addr data a b c v rest hb ht
  rw [exec_idle_reached hb ht, scriptOf, aprdScript, selectAP_access_run_reached]
  exact congrArg _ (State.finish_reached ..)

/-- Settles O22: the access of APWR is the write of DATA. -/
theorem apwrWritesTheBankedRegister : Obligations.ApwrWritesTheBankedRegister := by
  intro s off addr data a b c d rest hb ht
  rw [exec_idle_reached hb ht, scriptOf, apwrScript, selectAP_access_run_reached]
  exact congrArg _ (State.finish_reached ..)

/-! ### Accesses that fail (60_exceptions.md R215, R221) -/

section
variable (s : State) (i : Instr) (evs : List Event) (tgt : Target) (a b c : Word) (l : Bool)
  (rest : List Answer) (vs : List Word) (addr : Addr) (off : Offset)

/-- A transaction that fails ends the operation; the target side has taken its write if it landed. -/
theorem Script.run_xfer_err_reached (role : Role) (r : Request) (k : Word → Script) :
    (Script.xfer role r k).run (s.reached i evs tgt (.err l :: rest) vs) =
      s.completed i (evs ++ [.xfer r (Answer.seen r (.err l))])
        (if l then tgt.land s.cfg (s.log ++ .accept (encode i) :: evs) role r else tgt) rest
        (failResponse .eTransport s.addrWidth) := by
  rw [Script.run_xfer_err (State.answer_live rfl r), State.answered_live rfl, State.raiseFail_eq,
    ← State.finish_reached (vs := vs)]
  cases l <;> simp [State.reached, Answer.lands, diags]

/-- The AP preamble fails at the select of SELECT1's bank. -/
theorem selectAP_run_bank_err (next : Script) :
    (selectAP s.cfg addr off next).run (s.reached i evs tgt (.err l :: rest) vs) =
      s.completed i
        (evs ++ [.xfer (.write s.cfg.xaddrSelect (s.cfg.bankSelect1.setWidth 32)) (.err l)])
        ⟨if l then s.cfg.bankSelect1.setWidth 32 else tgt.select, tgt.select1⟩ rest
        (failResponse .eTransport s.addrWidth) := by
  rw [selectAP, selectDP, Script.run_xfer_err_reached, selVal_zero_offset]
  cases l <;> rfl

/-- The AP preamble fails at the write of SELECT1, which the select before it has exposed. -/
theorem selectAP_run_select1_err (next : Script) :
    (selectAP s.cfg addr off next).run (s.reached i evs tgt (.ok a :: .err l :: rest) vs) =
      s.completed i (evs ++ [evBank s.cfg s.cfg.bankSelect1,
          .xfer (.write s.cfg.xaddrSelect1 (hi32 addr)) (.err l)])
        ⟨s.cfg.bankSelect1.setWidth 32, if l then hi32 addr else tgt.select1⟩ rest
        (failResponse .eTransport s.addrWidth) := by
  rw [selectAP, selectDP_run_reached, writeSelect1, Script.run_xfer_err_reached]
  cases l <;> simp [Target.land, select1Exposed, bank_exposed, Answer.seen]

/-- The AP preamble fails at the select of the AP's window. -/
theorem selectAP_run_window_err (next : Script) :
    (selectAP s.cfg addr off next).run (s.reached i evs tgt (.ok a :: .ok b :: .err l :: rest) vs) =
      s.completed i (evs ++ [evBank s.cfg s.cfg.bankSelect1, evSelect1 s.cfg (hi32 addr),
          .xfer (.write s.cfg.xaddrSelect (selVal s.cfg (lo32 addr) off)) (.err l)])
        ⟨if l then selVal s.cfg (lo32 addr) off else s.cfg.bankSelect1.setWidth 32, hi32 addr⟩ rest
        (failResponse .eTransport s.addrWidth) := by
  rw [selectAP, selectDP_run_reached, writeSelect1, Script.run_xfer_reached, writeSelect,
    Script.run_xfer_err_reached]
  cases l <;> simp [Target.land, select1Exposed, bank_exposed, Answer.seen, evSelect1]

/-- The AP preamble succeeds and the access after it fails. -/
theorem selectAP_access_run_err (r : Request) (k : Word → Script) :
    (selectAP s.cfg addr off (.xfer .access r k)).run
        (s.reached i evs tgt (.ok a :: .ok b :: .ok c :: .err l :: rest) vs) =
      s.completed i (evs ++ evPreamble s.cfg addr off ++ [.xfer r (Answer.seen r (.err l))])
        (apTarget s.cfg addr off) rest (failResponse .eTransport s.addrWidth) := by
  rw [selectAP_run_reached, Script.run_xfer_err_reached, Target.land_access, ite_self]

end

/-- The transaction that APRD or APWR issues after the preamble (43_ap_access.md R171, R172). -/
def accessRequest (off : Offset) (addr : Addr) (data : Word) (i : Instr) : Request :=
  if i = .aprd off addr data then .read (xaddrOf off) else .write (xaddrOf off) data

/-- APRD and APWR are the AP preamble and one access (43_ap_access.md R171, R172). -/
theorem scriptOf_access (c : Cfg) {off : Offset} {addr : Addr} {data : Word} {i : Instr}
    (hi : i = .aprd off addr data ∨ i = .apwr off addr data) :
    ∃ k, scriptOf c i =
      selectAP c addr off (.xfer .access (accessRequest off addr data i) k) := by
  obtain rfl | rfl := hi
  · exact ⟨_, by rw [accessRequest, if_pos rfl]; rfl⟩
  · exact ⟨_, by rw [accessRequest, if_neg nofun]; rfl⟩

/-- A failed read shows no landing bit, which a failed write carries (60_exceptions.md R221). -/
theorem xfer_accessRequest_err (off : Offset) (addr : Addr) (data : Word) (i : Instr) (l : Bool) :
    Event.xfer (accessRequest off addr data i)
        (Answer.seen (accessRequest off addr data i) (.err l)) =
      if i = .aprd off addr data then .xfer (.read (xaddrOf off)) (.err false)
        else .xfer (.write (xaddrOf off) data) (.err l) := by
  unfold accessRequest
  split <;> rfl

/-- Settles O23: one position after the other, for the one script that both operations have. -/
theorem apAccessFailsAtEachTransaction : Obligations.ApAccessFailsAtEachTransaction := by
  intro s off addr data a b c l rest i hi hb
  obtain ⟨k, hk⟩ := scriptOf_access s.cfg hi
  refine ⟨fun ht => ?_, fun ht => ?_, fun ht => ?_, fun ht => ?_⟩ <;>
    rw [exec_idle_reached hb ht, hk]
  · exact congrArg _ (selectAP_run_bank_err ..)
  · exact congrArg _ (selectAP_run_select1_err ..)
  · exact congrArg _ (selectAP_run_window_err ..)
  · rw [← xfer_accessRequest_err]
    exact congrArg _ (selectAP_access_run_err ..)

end Sys2Proof.Machine
end

section
/-! SUPPORT. The trace of an operation as a function of its operands and of the transport's answers
(43_ap_access.md R174). -/

namespace Sys2Proof.Machine

/-! ### What a script issues -/

/-- The transactions of a script that starts with ADDR_WIDTH at `w` and finds these answers. -/
def Script.issued : Script → BitVec 7 → List Answer → List Event
  | .xfer _ r k, w, .ok v :: as => .xfer r (Answer.seen r (.ok v)) :: (k (r.value v)).issued w as
  | .xfer _ r _, _, .err l :: _ => [.xfer r (Answer.seen r (.err l))]
  | .xfer .., _, _ => []
  | .bindV6 k, w, as => k.issued w as
  | .recordWidth w k, _, as => k.issued w as
  | .readWidth k, w, as => (k w).issued w as
  | .diag _ k, w, as => k.issued w as
  | .fail _, _, _ => []
  | .ret .., _, _ => []

theorem trace_append (es fs : List Event) : trace (es ++ fs) = trace es ++ trace fs :=
  List.filter_append es fs

/-- The end of an operation is not in the trace (00_scope.md R18). -/
theorem State.finish_trace (s : State) (r : Response) :
    trace (s.finish r).log = trace s.log := by
  rw [State.finish_log]
  split <;> simp [trace, Event.isXfer]

/-- A transaction answered is the next event of the trace. -/
theorem State.answered_trace (s : State) (role : Role) (r : Request) (a : Answer) :
    trace (s.answered role r a).log = trace s.log ++ [.xfer r (a.seen r)] := by
  rw [State.answered_log, trace_append]
  rfl

/-- A diagnostic is not in the trace. -/
theorem State.emit_trace (s : State) (w : PortWord) :
    trace (s.emit w).log = trace s.log := by
  simp [trace, Event.isXfer]

/-- A run with enough answers listed adds to the trace what its script issues. -/
theorem Script.AtMost.run_trace {p : Script} {n : Nat} (hp : p.AtMost n) {s : State}
    {as : List Answer} (ht : s.transport = .live as) (hn : n ≤ as.length) :
    trace (p.run s).log = trace s.log ++ p.issued s.addrWidth as := by
  induction p generalizing n s as with
  | xfer role r k ih =>
    obtain ⟨m, rfl, hk⟩ := hp
    cases as with
    | nil => simp at hn
    | cons a as =>
      have ha := State.answer_live ht r
      cases a with
      | ok v =>
        have hrest : ((s.answered role r (.ok v)).advance (r.value v)).transport = .live as := by
          simp [State.carry_live ht]
        rw [Script.run_xfer_ok ha, ih _ (hk _) hrest (Nat.le_of_succ_le_succ hn),
          State.advance_log, State.answered_trace, State.advance_addrWidth,
          State.answered_addrWidth, List.append_assoc]
        rfl
      | err l =>
        rw [Script.run_xfer_err ha, State.raiseFail_eq, State.finish_trace, State.answered_trace]
        rfl
      | silent taken =>
        rw [Script.run_xfer_silent ha]
        exact (List.append_nil _).symm
  | bindV6 k ih => exact ih hp (s := s.bindV6) ht hn
  | recordWidth w k ih => exact ih hp (s := s.recordWidth w) ht hn
  | readWidth k ih => exact ih _ (hp _) ht hn
  | diag w k ih =>
    refine (ih hp (s := s.emit w) ht hn).trans ?_
    rw [State.emit_trace]
    rfl
  | fail q => exact (s.finish_trace _).trans (List.append_nil _).symm
  | ret ok q cls a d => exact (s.finish_trace _).trans (List.append_nil _).symm

/-! ### Scripts that do not look at an earlier width -/

/-- A script that reads ADDR_WIDTH only after it has written it. -/
def Script.RecordsBeforeReading : Script → Prop
  | .xfer _ _ k => ∀ v, (k v).RecordsBeforeReading
  | .bindV6 k => k.RecordsBeforeReading
  | .recordWidth .. => True
  | .readWidth _ => False
  | .diag _ k => k.RecordsBeforeReading
  | .fail _ => True
  | .ret .. => True

/-- The value ADDR_WIDTH had before such a script shows in no transaction. -/
theorem Script.RecordsBeforeReading.issued_eq {p : Script} (hp : p.RecordsBeforeReading)
    (w w' : BitVec 7) (as : List Answer) : p.issued w as = p.issued w' as := by
  induction p generalizing as with
  | xfer role r k ih =>
    cases as with
    | nil => rfl
    | cons a as =>
      cases a with
      | ok v => exact congrArg _ (ih _ (hp _) as)
      | err l => rfl
      | silent taken => rfl
  | bindV6 k ih => exact ih hp as
  | recordWidth v k ih => rfl
  | readWidth k ih => exact hp.elim
  | diag v k ih => exact ih hp as
  | fail q => rfl
  | ret ok q cls a d => rfl

theorem Script.recordsBeforeReading_xfer {role : Role} {r : Request} {k : Word → Script} :
    (Script.xfer role r k).RecordsBeforeReading ↔ ∀ v, (k v).RecordsBeforeReading := Iff.rfl

theorem probe_recordsBeforeReading (c : Cfg) (base : Addr) (n : Word) :
    (probe c base n).RecordsBeforeReading := by
  simp only [probe, readLane, selectAP, selectDP, writeSelect1, writeSelect,
    Script.recordsBeforeReading_xfer, forall_const]
  intro v0 v1 v2 v3
  unfold probeVerdict
  split <;> trivial

/-- INIT records the width it then tests the base pointer against, or fails before that
(42_dp_init.md R152, R153, R156). -/
theorem initScript_recordsBeforeReading (c : Cfg) : (initScript c).RecordsBeforeReading := by
  intro _ v
  change (if _ then _ else _ : Script).RecordsBeforeReading
  split <;> trivial

/-- No operation looks at the ADDR_WIDTH an earlier one left (60_exceptions.md R225). -/
theorem scriptOf_recordsBeforeReading (c : Cfg) (i : Instr) :
    (scriptOf c i).RecordsBeforeReading := by
  cases i with
  | selb hiv off addr data =>
    cases hiv with
    | false => exact fun _ => trivial
    | true => exact fun _ _ _ => trivial
  | rdbase off addr data => exact fun _ _ _ _ => trivial
  | init off addr data => exact initScript_recordsBeforeReading c
  | aprd off addr data => exact fun _ _ _ _ => trivial
  | apwr off addr data => exact fun _ _ _ _ => trivial
  | probe off addr data => exact probe_recordsBeforeReading c addr data

/-! ### The trace of an operation -/

/-- With enough answers listed, the trace of an operation is what its script issues. -/
theorem exec_trace {i : Instr} {s t : State} {as : List Answer} (hb : s.busy = false)
    (ht : s.transport = .live as) (hn : 22 ≤ as.length) (hx : exec i s = .next t) :
    trace (t.log.drop s.log.length) = (scriptOf s.cfg i).issued s.addrWidth as := by
  rw [exec_next_iff, State.perform_idle hb] at hx
  obtain ⟨es, hes⟩ : s.log <+: t.log :=
    (List.prefix_append ..).trans (hx ▸ Script.run_log _ (s.accept (encode i)))
  have htrace := (scriptOf_atMost s.cfg i).run_trace (s := s.accept (encode i)) ht hn
  rw [← hx, ← hes, trace_append, State.accept_log, trace_append] at htrace
  rw [← hes, List.drop_left]
  simpa [trace, Event.isXfer] using htrace

/-- Settles O39: what the script issues is the same under any two values of ADDR_WIDTH. -/
theorem traceDependsOnOperandsAlone : Obligations.TraceDependsOnOperandsAlone := by
  intro i s₁ s₂ t₁ t₂ as hcfg hb₁ hb₂ ht₁ ht₂ hn hx₁ hx₂
  rw [exec_trace hb₁ ht₁ hn hx₁, exec_trace hb₂ ht₂ hn hx₂, hcfg]
  exact (scriptOf_recordsBeforeReading s₂.cfg i).issued_eq ..

end Sys2Proof.Machine
end

section
/-! SUPPORT. The obligations on the component prober (44_component_probe.md): the Component ID
assembled from four lanes, the preamble test and the class, and PROBE's two ends. -/

namespace Sys2Proof.Machine

/-! ### The assembled Component ID (44_component_probe.md R190) -/

/-- A lane byte put at bit `t` is found again there. -/
theorem extract_laneByte_shiftLeft_same (v : Word) {t : Nat} (ht : t ≤ 24) :
    (laneByte v <<< t).extractLsb' t 8 = v.extractLsb' 0 8 := by
  ext i hi
  have hbit : t + i < 32 := by omega
  simp [laneByte, hi, hbit]

/-- A lane byte put at bit `t` reaches into no byte beside it. -/
theorem extract_laneByte_shiftLeft_other (v : Word) {s t : Nat} (h : s + 8 ≤ t ∨ t + 8 ≤ s) :
    (laneByte v <<< t).extractLsb' s 8 = 0#8 := by
  ext i hi
  obtain h | h := h
  · have hbelow : s + i < t := by omega
    simp [hbelow]
  · have habove : ¬ s + i - t < 8 := by omega
    simp [laneByte, habove]

/-- A byte of the assembled ID is what each of the four shifted lane bytes has there. -/
theorem extract_cidrAssemble (v0 v1 v2 v3 : Word) (s : Nat) :
    (cidrAssemble v0 v1 v2 v3).extractLsb' s 8 =
      (laneByte v0 <<< 0).extractLsb' s 8 ||| (laneByte v1 <<< 8).extractLsb' s 8 |||
        (laneByte v2 <<< 16).extractLsb' s 8 ||| (laneByte v3 <<< 24).extractLsb' s 8 := by
  simp only [cidrAssemble, BitVec.extractLsb'_or, BitVec.shiftLeft_zero]

/-- Settles O12: of the four shifted lane bytes one lies in the byte asked for. -/
theorem cidrAssembleTakesOneBytePerLane : Obligations.CidrAssembleTakesOneBytePerLane := by
  intro v0 v1 v2 v3
  simp [extract_cidrAssemble, extract_laneByte_shiftLeft_same, extract_laneByte_shiftLeft_other,
    -BitVec.shiftLeft_zero]

/-! ### The class field and the preamble test (44_component_probe.md R192, R193) -/

/-- A class nibble put where the class field lies. -/
def classField (c : Cfg) (k : BitVec 4) : Word := k.setWidth 32 <<< c.cidClassShift.toNat

/-- The class mask is the run of four bits at the class shift, and the run lies in the word
(00_scope.md R10). -/
theorem Cfg.classMask_of_wf {c : Cfg} (h : c.wf = true) :
    c.cidClassShift.toNat ≤ 28 ∧ c.cidClassMask = 0xF#32 <<< c.cidClassShift.toNat := by
  simp only [Cfg.wf, Cfg.classMaskRun, Bool.and_eq_true, decide_eq_true_eq, beq_iff_eq] at h
  obtain ⟨⟨-, hrun⟩, -⟩ := h
  exact hrun

/-- The preamble has no bit in the class field (00_scope.md R10). -/
theorem Cfg.preamble_and_classMask {c : Cfg} (h : c.wf = true) :
    c.cidPreamble &&& c.cidClassMask = 0#32 := by
  simp only [Cfg.wf, Cfg.preambleClear, Bool.and_eq_true, beq_iff_eq] at h
  obtain ⟨⟨⟨-, hclear⟩, -⟩, -⟩ := h
  exact hclear

/-- The class mask is the class field with every bit set. -/
theorem Cfg.classMask_eq_classField {c : Cfg} (h : c.wf = true) :
    c.cidClassMask = classField c (BitVec.allOnes 4) :=
  (Cfg.classMask_of_wf h).2

theorem getElem_classField (c : Cfg) (k : BitVec 4) {i : Nat} (hi : i < 32) :
    (classField c k)[i] =
      (decide (c.cidClassShift.toNat ≤ i) && k.getLsbD (i - c.cidClassShift.toNat)) := by
  by_cases h : i < c.cidClassShift.toNat
  · simp [classField, h]
  · simp [classField, h, Nat.le_of_not_lt h]

/-- The class field of an ID holds its class. -/
theorem and_classMask {c : Cfg} (h : c.wf = true) (x : Word) :
    x &&& c.cidClassMask = classField c (cidrClass c x) := by
  ext i hi
  rw [cidrClass, Cfg.classMask_eq_classField h, BitVec.getElem_and, getElem_classField,
    getElem_classField, BitVec.getLsbD_allOnes]
  by_cases hshift : c.cidClassShift.toNat ≤ i
  · simp [hshift, getElem_classField, hi, Bool.and_comm, -BitVec.reduceAllOnes]
  · simp [hshift]

/-- A nibble put in the class field of the preamble is the class. -/
theorem cidrClass_preamble_or {c : Cfg} (h : c.wf = true) (k : BitVec 4) :
    cidrClass c (c.cidPreamble ||| classField c k) = k := by
  obtain ⟨hshift, -⟩ := Cfg.classMask_of_wf h
  have hfield : (c.cidPreamble ||| classField c k) &&& c.cidClassMask = classField c k := by
    rw [BitVec.and_or_distrib_right, Cfg.preamble_and_classMask h, BitVec.zero_or,
      Cfg.classMask_eq_classField h, classField, classField, ← BitVec.shiftLeft_and_distrib,
      ← BitVec.setWidth_and, BitVec.and_allOnes]
  rw [cidrClass, hfield]
  ext i hi
  have hbit : c.cidClassShift.toNat + i < 32 := by omega
  simp [classField, hi, hbit]

/-- The bits outside a mask and the bits under it make up the word. -/
theorem and_not_or_and (x m : Word) : x &&& ~~~m ||| x &&& m = x := by
  rw [← BitVec.and_or_distrib_left, BitVec.not_or_self, BitVec.and_allOnes]

/-- A word is `p` outside the mask `m` if it is `p` with the word's own bits under `m` put in, and
only then. -/
theorem and_not_eq_iff {p m : Word} (hp : p &&& m = 0#32) (x : Word) :
    x &&& ~~~m = p ↔ x = p ||| x &&& m := by
  constructor
  · rintro rfl
    exact (and_not_or_and x m).symm
  · intro hx
    have hpm : p &&& ~~~m = p := by simpa [hp] using and_not_or_and p m
    calc x &&& ~~~m
      _ = (p ||| x &&& m) &&& ~~~m := by rw [← hx]
      _ = p &&& ~~~m := by simp [BitVec.and_or_distrib_right, BitVec.and_assoc]
      _ = p := hpm

/-- An ID passes if it is the preamble with its own class put in, and only then. -/
theorem cidrPreambleOk_iff {c : Cfg} (h : c.wf = true) (x : Word) :
    cidrPreambleOk c x = true ↔ x = c.cidPreamble ||| classField c (cidrClass c x) := by
  rw [cidrPreambleOk, beq_iff_eq, ← and_classMask h]
  exact and_not_eq_iff (Cfg.preamble_and_classMask h) x

/-- The sixteen IDs pass. -/
theorem cidrPreambleOk_preamble_or {c : Cfg} (h : c.wf = true) (k : BitVec 4) :
    cidrPreambleOk c (c.cidPreamble ||| classField c k) = true := by
  rw [cidrPreambleOk_iff h, cidrClass_preamble_or h]

/-- Settles O13: the ID is the preamble and its class field, and the class is read back. -/
theorem preambleTestIgnoresTheClass : Obligations.PreambleTestIgnoresTheClass := by
  intro c hc
  exact ⟨cidrPreambleOk_iff hc, fun k =>
    ⟨cidrPreambleOk_preamble_or hc k, cidrClass_preamble_or hc k⟩⟩

/-! ### PROBE (44_component_probe.md R194 to R198) -/

/-- Settles O24: the four lanes, then the verdict of a match. -/
theorem probeReportsAMatchAndStops : Obligations.ProbeReportsAMatchAndStops := by
  intro s off addr data a0 b0 c0 v0 a1 b1 c1 v1 a2 b2 c2 v2 a3 b3 c3 v3 rest hb ht hok
  rw [exec_idle_reached hb ht, scriptOf, probe_run_reached, probeVerdict_run_match hok]
  rfl

/-- Settles O25: the four lanes, then the verdict of a mismatch. -/
theorem probeReportsNothingOnAMismatch : Obligations.ProbeReportsNothingOnAMismatch := by
  intro s off addr data a0 b0 c0 v0 a1 b1 c1 v1 a2 b2 c2 v2 a3 b3 c3 v3 rest hb ht hok
  rw [exec_idle_reached hb ht, scriptOf, probe_run_reached, probeVerdict_run_mismatch hok]
  rfl

end Sys2Proof.Machine
end

section
/-! SUPPORT. The obligations on failures (60_exceptions.md): a failing transaction is the last thing
an operation does, the operations that emit no diagnostic, and no step that stops. -/

namespace Sys2Proof.Machine

/-! ### Events that a step does not add -/

/-- The log has grown from `past`, and none of the new events satisfies `p`. -/
def State.Without (p : Event → Bool) (past : List Event) (s : State) : Prop :=
  ∃ es, s.log = past ++ es ∧ es.any p = false

section
variable {p : Event → Bool} {past : List Event} {s t : State}

theorem State.without_self (p : Event → Bool) (s : State) : s.Without p s.log := ⟨[], by simp⟩

theorem State.Without.append {es : List Event} (h : s.Without p past)
    (hlog : t.log = s.log ++ es) (hes : es.any p = false) : t.Without p past := by
  obtain ⟨fs, hl, hfs⟩ := h
  exact ⟨fs ++ es, by simp [hlog, hl], by simp [hfs, hes]⟩

theorem State.Without.offer (h : s.Without p past) (hp : ∀ w, p (.response w) = false) :
    s.offer.Without p past := by
  obtain ⟨-, heq⟩ | ⟨-, heq⟩ := s.offer_cases <;> rw [heq]
  · exact h.append (es := [.response s.rsp.word]) rfl (by simp [hp])
  · exact h

theorem State.Without.finish (h : s.Without p past) (hp : ∀ w, p (.response w) = false)
    (r : Response) : (s.finish r).Without p past :=
  State.Without.offer (s := { s with rsp := r, seq := .responding }) h hp

theorem State.launched_without (hp : ∀ w, p (.accept w) = false) (s : State) (i : Instr) :
    (s.launched i).Without p s.log :=
  (s.without_self p).append (s.launched_log i) (by simp [hp])

end

/-- Presenting a command changes nothing while BUSY is 1, else it goes on from acceptance. -/
theorem exec_resume_cases {i : Instr} {s t : State} (h : exec i s = .next t) :
    t = s ∨ (s.launched i).resume = some t := by
  cases hb : s.busy with
  | true => rw [exec_next_iff, State.perform_busy hb] at h; exact .inl h
  | false => exact .inr ((exec_idle_iff_resume hb).1 h)

/-! ### A failing transaction (60_exceptions.md R214, R215) -/

/-- One transaction has failed since `past`, the operation has ended with E_TRANSPORT, and nothing
followed the failure but that response, where it was taken. -/
def State.FailedSince (past : List Event) (s : State) : Prop :=
  s.Ended ∧ s.rsp = failResponse .eTransport s.addrWidth ∧
  ∃ fs r l, fs.any Event.failed = false ∧
    s.log = past ++ (fs ++ .xfer r (.err l) ::
      (if s.hostReady then [.response s.rsp.word] else []))

section
variable {past : List Event} {s t : State}

theorem State.raiseFail_ended (s : State) (q : Reason) : (s.raiseFail q).Ended := by
  intro vs
  rw [State.raiseFail_seq]
  split <;> nofun

/-- A failed answer is seen as one: BSE is spared only the landing bit of a read
(60_exceptions.md R221). -/
theorem Answer.seen_err (r : Request) (l : Bool) : ∃ l', Answer.seen r (.err l) = .err l' := by
  cases r with
  | read x => exact ⟨false, rfl⟩
  | write x d => exact ⟨l, rfl⟩

theorem Answer.seen_ok (r : Request) (v : Word) : ∃ v', Answer.seen r (.ok v) = .ok v' := by
  cases r with
  | read x => exact ⟨v, rfl⟩
  | write x d => exact ⟨0#32, rfl⟩

theorem State.Without.answered_ok (h : s.Without Event.failed past) (role : Role) (r : Request)
    (v : Word) : (s.answered role r (.ok v)).Without Event.failed past := by
  obtain ⟨v', hv⟩ := Answer.seen_ok r v
  exact h.append (s.answered_log role r (.ok v)) (by simp [hv, Event.failed])

/-- `raise Fail(E_TRANSPORT)` right after the failing answer (60_exceptions.md R215). -/
theorem State.Without.failedSince (h : s.Without Event.failed past) (role : Role) (r : Request)
    (l : Bool) : ((s.answered role r (.err l)).raiseFail .eTransport).FailedSince past := by
  obtain ⟨fs, hlog, hfs⟩ := h
  obtain ⟨l', hl⟩ := Answer.seen_err r l
  refine ⟨State.raiseFail_ended _ _, by simp, fs, r, l', hfs, ?_⟩
  cases hr : s.hostReady <;> simp [hr, hl, hlog]

/-- A run goes without a failure, or ends with its first. -/
theorem Script.run_failure (p : Script) (h : s.Without Event.failed past) :
    (p.run s).Without Event.failed past ∨ (p.run s).FailedSince past := by
  refine Script.run_induction (P := State.Without Event.failed past)
    (Q := fun t => t.Without Event.failed past ∨ t.FailedSince past) ?_ ?_ ?_ ?_ ?_ ?_ ?_ ?_ p s h
  · exact fun t role r v h => h.answered_ok role r v
  · exact fun t h => h
  · exact fun t w h => h
  · exact fun t w h => h.append (t.emit_log w) rfl
  · exact fun t role r l h => .inr (h.failedSince role r l)
  · exact fun t taken h => .inl h
  · exact fun t q h => .inl (h.finish (fun _ => rfl) _)
  · exact fun t ok q cls a d h => .inl (h.finish (fun _ => rfl) _)

theorem State.Without.resume_failure (h : s.Without Event.failed past) (hr : s.resume = some t) :
    t.Without Event.failed past ∨ t.FailedSince past := by
  obtain ⟨-, rfl⟩ | ⟨vs, i, -, -, -, rfl⟩ := State.resume_cases_script hr
  · exact .inl (h.offer fun _ => rfl)
  · exact Script.run_failure _ h

/-- Accepting a command and going on with it leave `rsp_ready`, and add no failure or one that ends
the operation. -/
theorem runs_failure {i : Instr} (h : exec i s = .next t ∨ s.resume = some t) :
    t.hostReady = s.hostReady ∧ (t.Without Event.failed s.log ∨ t.FailedSince s.log) := by
  obtain hx | hr := h
  · obtain rfl | hr := exec_resume_cases hx
    · exact ⟨rfl, .inl (t.without_self _)⟩
    · obtain ⟨-, -, hready, -⟩ := State.resume_frame hr
      exact ⟨by simpa using hready,
        (State.launched_without (fun _ => rfl) s i).resume_failure hr⟩
  · obtain ⟨-, -, hready, -⟩ := State.resume_frame hr
    exact ⟨hready, (s.without_self _).resume_failure hr⟩

end

/-- Settles O32: a step that adds a failed transaction is not one without failures, so it ended with
the failure (`runs_failure`). -/
theorem transportFailureEndsTheOperation : Obligations.TransportFailureEndsTheOperation := by
  intro i s t es h hlog hfail
  obtain ⟨hready, ⟨fs, hl, hfs⟩ | ⟨hend, hrsp, fs, r, l, hfs, hl⟩⟩ := runs_failure h
  · obtain rfl : es = fs := List.append_cancel_left (hlog.symm.trans hl)
    simp [hfs] at hfail
  · exact ⟨hend, hrsp, fs, r, l, hfs, hready ▸ List.append_cancel_left (hlog.symm.trans hl)⟩

/-! ### Operations without diagnostics (60_exceptions.md R224) -/

/-- A script that emits no diagnostic. -/
def Script.Diagless : Script → Prop
  | .xfer _ _ k => ∀ v, (k v).Diagless
  | .bindV6 k => k.Diagless
  | .recordWidth _ k => k.Diagless
  | .readWidth k => ∀ w, (k w).Diagless
  | .diag _ _ => False
  | .fail _ => True
  | .ret .. => True

theorem Script.Diagless.after {p : Script} (hp : p.Diagless) (w : BitVec 7) (vs : List Word) :
    (p.after w vs).Diagless := by
  induction p generalizing vs with
  | xfer role r k ih =>
    cases vs with
    | nil => exact hp
    | cons v vs => exact ih v (hp v) vs
  | bindV6 k ih => exact ih hp vs
  | recordWidth w' k ih => exact ih hp vs
  | readWidth k ih => exact ih w (hp w) vs
  | diag w' k ih => exact hp.elim
  | fail q => trivial
  | ret ok q cls a d => trivial

section
variable {past : List Event} {s t : State}

theorem Script.Diagless.run {p : Script} (hp : p.Diagless) (h : s.Without Event.isDiag past) :
    (p.run s).Without Event.isDiag past := by
  induction p generalizing s with
  | xfer role r k ih =>
    cases ha : s.answer r with
    | ok v =>
      rw [Script.run_xfer_ok ha]
      exact ih _ (hp _) (h.append (s.answered_log role r (.ok v)) rfl)
    | err l =>
      rw [Script.run_xfer_err ha]
      exact (h.append (s.answered_log role r (.err l)) rfl).finish (fun _ => rfl) _
    | silent taken =>
      rw [Script.run_xfer_silent ha]
      exact h
  | bindV6 k ih => exact ih hp (s := s.bindV6) h
  | recordWidth w k ih => exact ih hp (s := s.recordWidth w) h
  | readWidth k ih => exact ih _ (hp _) h
  | diag w k ih => exact hp.elim
  | fail q => exact h.finish (fun _ => rfl) _
  | ret ok q cls a d => exact h.finish (fun _ => rfl) _

/-- Going on with `i` emits no diagnostic if its script has none. -/
theorem State.Without.resume_diagless {i : Instr} (h : s.Without Event.isDiag past)
    (hp : (scriptOf s.cfg i).Diagless) (hl : s.latched = .ok i) (hr : s.resume = some t) :
    t.Without Event.isDiag past := by
  obtain ⟨-, rfl⟩ | ⟨vs, j, -, hj, -, rfl⟩ := State.resume_cases_script hr
  · exact h.offer fun _ => rfl
  · obtain rfl : i = j := by rw [hl] at hj; injection hj
    exact (hp.after _ _).run h

end

section
variable {c : Cfg}

theorem writeSelect_diagless {a : Addr} {off : Offset} {next : Script} (hn : next.Diagless) :
    (writeSelect c a off next).Diagless := fun _ => hn

theorem selectAP_diagless {a : Addr} {off : Offset} {next : Script} (hn : next.Diagless) :
    (selectAP c a off next).Diagless := fun _ _ _ => hn

theorem readBase_diagless {k : Addr → Script} (hk : ∀ raw, (k raw).Diagless) :
    (readBase c k).Diagless := fun _ _ _ _ => hk _

end

/-- SELB, RDBASE, APRD and APWR have no diagnostic in their scripts (40_bank_selector.md R117,
41_base_address.md R138, 43_ap_access.md R171, R172). -/
theorem scriptOf_diagless (c : Cfg) {i : Instr} (hinit : i.command.op ≠ 3#4)
    (hprobe : i.command.op ≠ 6#4) : (scriptOf c i).Diagless := by
  cases i with
  | selb hiv off addr data =>
    cases hiv with
    | false => exact writeSelect_diagless trivial
    | true => exact selectAP_diagless trivial
  | rdbase off addr data =>
    exact readBase_diagless (k := fun raw => .ret true .none 0#4 raw 0#32) fun _ => trivial
  | init off addr data => exact absurd rfl hinit
  | aprd off addr data => exact selectAP_diagless fun _ => trivial
  | apwr off addr data => exact selectAP_diagless fun _ => trivial
  | probe off addr data => exact absurd rfl hprobe

/-- Settles O37: the scripts of the four operations emit none, in whichever step. -/
theorem onlyInitAndProbeEmitDiagnostics : Obligations.OnlyInitAndProbeEmitDiagnostics := by
  intro i s t hinit hprobe h
  have hscript := fun c => scriptOf_diagless c hinit hprobe
  have hnone : t.Without Event.isDiag s.log := by
    obtain hx | ⟨hl, hr⟩ := h
    · obtain rfl | hr := exec_resume_cases hx
      · exact t.without_self _
      · exact (State.launched_without (fun _ => rfl) s i).resume_diagless (hscript _)
          (s.launched_latched i) hr
    · exact (s.without_self _).resume_diagless (hscript _) hl hr
  obtain ⟨es, hlog, hes⟩ := hnone
  rwa [hlog, List.drop_left]

/-! ### No step stops (60_exceptions.md R214, R222) -/

/-- A BUSY machine can go on: its response is presented, or its next transaction is outstanding. -/
theorem State.Inv.exists_resume {s : State} (h : s.Inv) (hb : s.busy = true) :
    ∃ t, s.resume = some t := by
  cases hs : s.seq with
  | idle => exact absurd hs (h.busySeq.1 hb)
  | responding => exact ⟨s.offer, by simp [State.resume, hs]⟩
  | running vs =>
    obtain ⟨role, r, k, -, hp, -⟩ := State.remaining_of_outstanding (h.position vs hs)
    exact ⟨(Script.xfer role r k).run s, by simp [State.resume, hs, hp]⟩

theorem State.Inv.exists_goOn {s : State} (h : s.Inv) : ∃ t, goOn s = .next t := by
  unfold goOn
  split
  next hb =>
    obtain ⟨t, ht⟩ := h.exists_resume hb
    exact ⟨t, by rw [ht]⟩
  next => exact ⟨s, rfl⟩

/-- A command word is executed or answered E_ILLEGAL (30_encoding.md R84). -/
theorem exists_present (w : PortWord) (s : State) : ∃ t, present w s = .next t := by
  unfold present
  split
  next i _ => exact ⟨_, exec_eq_perform i s⟩
  next => exact ⟨_, rfl⟩

/-- Whoever moves, there is a next state: only going on needs the invariant. -/
theorem State.Inv.exists_move {s : State} (h : s.Inv) : ∃ t, move s = .next t := by
  unfold move
  split
  next w rest _ =>
    split
    · exact h.exists_goOn
    · exact exists_present w _
  next rest _ =>
    exact (h.with_world s.diagOut s.hostReady rest s.target h.regsWf s.waits s.log).exists_goOn
  next => exact ⟨_, rfl⟩
  next => exact ⟨_, rfl⟩
  next => exact ⟨_, rfl⟩
  next => exact ⟨_, rfl⟩
  next => exact h.exists_goOn

/-- Settles O47: the configuration is well-formed, and the move answers from the beginning of the
step. -/
theorem noStepStopsUnderTheInvariant : Obligations.NoStepStopsUnderTheInvariant := by
  intro s h
  obtain ⟨t, ht⟩ := (h.begun s.inputs).exists_move
  exact ⟨t, step_next_iff.2 ⟨h.cfgWf, ht⟩⟩

end Sys2Proof.Machine
end

section
/-! SUPPORT. The obligations on reset (70_reset_and_hazards.md): the ports of a machine in which no
operation is in flight, and what a step in which `rst` rises leaves. -/

namespace Sys2Proof.Machine

/-! ### A machine in which no operation is in flight -/

section
variable {s : State}

/-- A request is outstanding only while an operation runs (20_memory.md R51). -/
theorem State.outstanding_of_idle (hs : s.seq = .idle) : s.outstanding = none := by
  simp [State.outstanding, State.remaining, hs]

theorem State.xReqValid_of_idle (hs : s.seq = .idle) : s.xReqValid = false := by
  simp [State.xReqValid, State.outstanding_of_idle hs]

theorem State.rspValid_of_idle (hs : s.seq = .idle) : s.rspValid = false := by
  simp [State.rspValid, hs]

end

/-- Settles O55: the registers are those of the definition, and the request and response ports are
those of a machine in which no operation is in flight. -/
theorem resetStateHasTheSpecifiedValues : Obligations.ResetStateHasTheSpecifiedValues :=
  ⟨rfl, rfl, rfl, rfl, rfl, rfl, rfl, rfl, State.rspValid_of_idle rfl, State.xReqValid_of_idle rfl,
    rfl⟩

/-! ### A step in which `rst` rises -/

section
variable {s : State} {landed : Bool} {rest : List Input}

/-- `rst` is taken in every step it is presented in, BUSY or not (70_reset_and_hazards.md R240,
R242). -/
theorem step_rst (hc : s.cfg.wf = true) (hi : s.inputs = .rst landed :: rest) :
    step s = .next ((s.begun rest).hardReset (s.targetAtReset landed) landed) := by
  have hmove : move s.beginStep =
      .next ((s.begun rest).hardReset (s.beginStep.targetAtReset landed) landed) := by
    simp [move, hi, State.begun]
  exact step_next_iff.2 ⟨hc, hmove⟩

/-- A reset changes the target only by carrying out the outstanding request
(70_reset_and_hazards.md R242; log 21). -/
theorem State.targetAtReset_cases (s : State) (landed : Bool) :
    s.targetAtReset landed = s.target ∨ landed = true ∧ ∃ role r,
      s.outstanding = some (role, r) ∧
      s.targetAtReset landed = s.target.land s.cfg s.log role r := by
  unfold State.targetAtReset
  split
  next role r _ ho =>
    cases landed with
    | false => exact .inl rfl
    | true => exact .inr ⟨rfl, role, r, ho, rfl⟩
  next => exact .inl rfl

end

/-- Settles O53: `State.hardReset` writes every register, and leaves no operation in flight. -/
theorem resetTakesTheResetState : Obligations.ResetTakesTheResetState := by
  intro s landed rest hc hi
  exact ⟨_, step_rst hc hi, rfl, rfl, rfl, rfl, rfl, rfl, rfl, rfl, State.rspValid_of_idle rfl,
    State.xReqValid_of_idle rfl, rfl⟩

/-- Settles O54: the target is the one of `State.targetAtReset`, and `State.hardReset` keeps the
transport and records one event. -/
theorem resetLeavesTheTarget : Obligations.ResetLeavesTheTarget := by
  intro s t landed rest hi h
  obtain ⟨hc, -⟩ := step_next_iff.1 h
  obtain rfl : (s.begun rest).hardReset (s.targetAtReset landed) landed = t := by
    rw [step_rst hc hi] at h
    injection h
  exact ⟨rfl, rfl, rfl, s.targetAtReset_cases landed⟩

end Sys2Proof.Machine
end
